-- ==== Sys2Proof/Word.lean ====
section
/-! DEFINITION. The machine's value types: a byte, and a 16-bit word (00_scope.md R10). -/

namespace Sys2Proof

/-- `u8` of 00_scope.md R10: a register, a memory cell. -/
abbrev Byte := BitVec 8

/-- `u16` of 00_scope.md R10: the PC, an address, a VRAM address register. -/
abbrev Word := BitVec 16

/-- A 32-bit colour of the frame buffer (10_state.md R64, 00_scope.md R7). -/
abbrev Colour := BitVec 32

end Sys2Proof
end

