-- ==== Sys2Proof/Syntax.lean ====
section
/-! DEFINITION. The instruction set: one constructor per row of spec/opcode_table.json (30_encoding.md R153), with the
operand byte or word its addressing mode reads (R150, R151). Operand fields occupy whole bytes, so every value of an
argument is an operand. -/

namespace Sys2Proof

/-- The 151 defined opcodes, in the table's order (opcode order). The suffix names the addressing mode (R150);
`Acc` is mode IMP acting on A. An instruction with one row has no suffix. -/
inductive Instr where
  | brk                     -- 0x00 BRK IMP, R298
  | oraIzx (zp : Byte)      -- 0x01 ORA IZX, R204
  | oraZp0 (zp : Byte)      -- 0x05 ORA ZP0, R204
  | aslZp0 (zp : Byte)      -- 0x06 ASL ZP0, R230
  | php                     -- 0x08 PHP IMP, R242
  | oraImm (imm : Byte)     -- 0x09 ORA IMM, R204
  | aslAcc                  -- 0x0A ASL IMP, R230
  | oraAbs (addr : Word)    -- 0x0D ORA ABS, R204
  | aslAbs (addr : Word)    -- 0x0E ASL ABS, R230
  | bpl (rel : Byte)        -- 0x10 BPL REL, R276
  | oraIzy (zp : Byte)      -- 0x11 ORA IZY, R204
  | oraZpx (zp : Byte)      -- 0x15 ORA ZPX, R204
  | aslZpx (zp : Byte)      -- 0x16 ASL ZPX, R230
  | clc                     -- 0x18 CLC IMP, R290
  | oraAby (addr : Word)    -- 0x19 ORA ABY, R204
  | oraAbx (addr : Word)    -- 0x1D ORA ABX, R204
  | aslAbx (addr : Word)    -- 0x1E ASL ABX, R230
  | jsr (addr : Word)       -- 0x20 JSR ABS, R280
  | andIzx (zp : Byte)      -- 0x21 AND IZX, R203
  | bitZp0 (zp : Byte)      -- 0x24 BIT ZP0, R206
  | andZp0 (zp : Byte)      -- 0x25 AND ZP0, R203
  | rolZp0 (zp : Byte)      -- 0x26 ROL ZP0, R232
  | plp                     -- 0x28 PLP IMP, R244
  | andImm (imm : Byte)     -- 0x29 AND IMM, R203
  | rolAcc                  -- 0x2A ROL IMP, R232
  | bitAbs (addr : Word)    -- 0x2C BIT ABS, R206
  | andAbs (addr : Word)    -- 0x2D AND ABS, R203
  | rolAbs (addr : Word)    -- 0x2E ROL ABS, R232
  | bmi (rel : Byte)        -- 0x30 BMI REL, R274
  | andIzy (zp : Byte)      -- 0x31 AND IZY, R203
  | andZpx (zp : Byte)      -- 0x35 AND ZPX, R203
  | rolZpx (zp : Byte)      -- 0x36 ROL ZPX, R232
  | sec                     -- 0x38 SEC IMP, R294
  | andAby (addr : Word)    -- 0x39 AND ABY, R203
  | andAbx (addr : Word)    -- 0x3D AND ABX, R203
  | rolAbx (addr : Word)    -- 0x3E ROL ABX, R232
  | rti                     -- 0x40 RTI IMP, R299
  | eorIzx (zp : Byte)      -- 0x41 EOR IZX, R205
  | eorZp0 (zp : Byte)      -- 0x45 EOR ZP0, R205
  | lsrZp0 (zp : Byte)      -- 0x46 LSR ZP0, R231
  | pha                     -- 0x48 PHA IMP, R241
  | eorImm (imm : Byte)     -- 0x49 EOR IMM, R205
  | lsrAcc                  -- 0x4A LSR IMP, R231
  | jmpAbs (addr : Word)    -- 0x4C JMP ABS, R279
  | eorAbs (addr : Word)    -- 0x4D EOR ABS, R205
  | lsrAbs (addr : Word)    -- 0x4E LSR ABS, R231
  | bvc (rel : Byte)        -- 0x50 BVC REL, R277
  | eorIzy (zp : Byte)      -- 0x51 EOR IZY, R205
  | eorZpx (zp : Byte)      -- 0x55 EOR ZPX, R205
  | lsrZpx (zp : Byte)      -- 0x56 LSR ZPX, R231
  | cli                     -- 0x58 CLI IMP, R292
  | eorAby (addr : Word)    -- 0x59 EOR ABY, R205
  | eorAbx (addr : Word)    -- 0x5D EOR ABX, R205
  | lsrAbx (addr : Word)    -- 0x5E LSR ABX, R231
  | rts                     -- 0x60 RTS IMP, R281
  | adcIzx (zp : Byte)      -- 0x61 ADC IZX, R200
  | adcZp0 (zp : Byte)      -- 0x65 ADC ZP0, R200
  | rorZp0 (zp : Byte)      -- 0x66 ROR ZP0, R233
  | pla                     -- 0x68 PLA IMP, R243
  | adcImm (imm : Byte)     -- 0x69 ADC IMM, R200
  | rorAcc                  -- 0x6A ROR IMP, R233
  | jmpInd (ptr : Word)     -- 0x6C JMP IND, R279
  | adcAbs (addr : Word)    -- 0x6D ADC ABS, R200
  | rorAbs (addr : Word)    -- 0x6E ROR ABS, R233
  | bvs (rel : Byte)        -- 0x70 BVS REL, R278
  | adcIzy (zp : Byte)      -- 0x71 ADC IZY, R200
  | adcZpx (zp : Byte)      -- 0x75 ADC ZPX, R200
  | rorZpx (zp : Byte)      -- 0x76 ROR ZPX, R233
  | sei                     -- 0x78 SEI IMP, R296
  | adcAby (addr : Word)    -- 0x79 ADC ABY, R200
  | adcAbx (addr : Word)    -- 0x7D ADC ABX, R200
  | rorAbx (addr : Word)    -- 0x7E ROR ABX, R233
  | staIzx (zp : Byte)      -- 0x81 STA IZX, R253
  | styZp0 (zp : Byte)      -- 0x84 STY ZP0, R255
  | staZp0 (zp : Byte)      -- 0x85 STA ZP0, R253
  | stxZp0 (zp : Byte)      -- 0x86 STX ZP0, R254
  | dey                     -- 0x88 DEY IMP, R212
  | txa                     -- 0x8A TXA IMP, R258
  | styAbs (addr : Word)    -- 0x8C STY ABS, R255
  | staAbs (addr : Word)    -- 0x8D STA ABS, R253
  | stxAbs (addr : Word)    -- 0x8E STX ABS, R254
  | bcc (rel : Byte)        -- 0x90 BCC REL, R271
  | staIzy (zp : Byte)      -- 0x91 STA IZY, R253
  | styZpx (zp : Byte)      -- 0x94 STY ZPX, R255
  | staZpx (zp : Byte)      -- 0x95 STA ZPX, R253
  | stxZpy (zp : Byte)      -- 0x96 STX ZPY, R254
  | tya                     -- 0x98 TYA IMP, R259
  | staAby (addr : Word)    -- 0x99 STA ABY, R253
  | txs                     -- 0x9A TXS IMP, R261
  | staAbx (addr : Word)    -- 0x9D STA ABX, R253
  | ldyImm (imm : Byte)     -- 0xA0 LDY IMM, R252
  | ldaIzx (zp : Byte)      -- 0xA1 LDA IZX, R250
  | ldxImm (imm : Byte)     -- 0xA2 LDX IMM, R251
  | ldyZp0 (zp : Byte)      -- 0xA4 LDY ZP0, R252
  | ldaZp0 (zp : Byte)      -- 0xA5 LDA ZP0, R250
  | ldxZp0 (zp : Byte)      -- 0xA6 LDX ZP0, R251
  | tay                     -- 0xA8 TAY IMP, R257
  | ldaImm (imm : Byte)     -- 0xA9 LDA IMM, R250
  | tax                     -- 0xAA TAX IMP, R256
  | ldyAbs (addr : Word)    -- 0xAC LDY ABS, R252
  | ldaAbs (addr : Word)    -- 0xAD LDA ABS, R250
  | ldxAbs (addr : Word)    -- 0xAE LDX ABS, R251
  | bcs (rel : Byte)        -- 0xB0 BCS REL, R272
  | ldaIzy (zp : Byte)      -- 0xB1 LDA IZY, R250
  | ldyZpx (zp : Byte)      -- 0xB4 LDY ZPX, R252
  | ldaZpx (zp : Byte)      -- 0xB5 LDA ZPX, R250
  | ldxZpy (zp : Byte)      -- 0xB6 LDX ZPY, R251
  | clv                     -- 0xB8 CLV IMP, R293
  | ldaAby (addr : Word)    -- 0xB9 LDA ABY, R250
  | tsx                     -- 0xBA TSX IMP, R260
  | ldyAbx (addr : Word)    -- 0xBC LDY ABX, R252
  | ldaAbx (addr : Word)    -- 0xBD LDA ABX, R250
  | ldxAby (addr : Word)    -- 0xBE LDX ABY, R251
  | cpyImm (imm : Byte)     -- 0xC0 CPY IMM, R223
  | cmpIzx (zp : Byte)      -- 0xC1 CMP IZX, R221
  | cpyZp0 (zp : Byte)      -- 0xC4 CPY ZP0, R223
  | cmpZp0 (zp : Byte)      -- 0xC5 CMP ZP0, R221
  | decZp0 (zp : Byte)      -- 0xC6 DEC ZP0, R208
  | iny                     -- 0xC8 INY IMP, R210
  | cmpImm (imm : Byte)     -- 0xC9 CMP IMM, R221
  | dex                     -- 0xCA DEX IMP, R211
  | cpyAbs (addr : Word)    -- 0xCC CPY ABS, R223
  | cmpAbs (addr : Word)    -- 0xCD CMP ABS, R221
  | decAbs (addr : Word)    -- 0xCE DEC ABS, R208
  | bne (rel : Byte)        -- 0xD0 BNE REL, R275
  | cmpIzy (zp : Byte)      -- 0xD1 CMP IZY, R221
  | cmpZpx (zp : Byte)      -- 0xD5 CMP ZPX, R221
  | decZpx (zp : Byte)      -- 0xD6 DEC ZPX, R208
  | cld                     -- 0xD8 CLD IMP, R291
  | cmpAby (addr : Word)    -- 0xD9 CMP ABY, R221
  | cmpAbx (addr : Word)    -- 0xDD CMP ABX, R221
  | decAbx (addr : Word)    -- 0xDE DEC ABX, R208
  | cpxImm (imm : Byte)     -- 0xE0 CPX IMM, R222
  | sbcIzx (zp : Byte)      -- 0xE1 SBC IZX, R201
  | cpxZp0 (zp : Byte)      -- 0xE4 CPX ZP0, R222
  | sbcZp0 (zp : Byte)      -- 0xE5 SBC ZP0, R201
  | incZp0 (zp : Byte)      -- 0xE6 INC ZP0, R207
  | inx                     -- 0xE8 INX IMP, R209
  | sbcImm (imm : Byte)     -- 0xE9 SBC IMM, R201
  | nop                     -- 0xEA NOP IMP, R297
  | cpxAbs (addr : Word)    -- 0xEC CPX ABS, R222
  | sbcAbs (addr : Word)    -- 0xED SBC ABS, R201
  | incAbs (addr : Word)    -- 0xEE INC ABS, R207
  | beq (rel : Byte)        -- 0xF0 BEQ REL, R273
  | sbcIzy (zp : Byte)      -- 0xF1 SBC IZY, R201
  | sbcZpx (zp : Byte)      -- 0xF5 SBC ZPX, R201
  | incZpx (zp : Byte)      -- 0xF6 INC ZPX, R207
  | sed                     -- 0xF8 SED IMP, R295
  | sbcAby (addr : Word)    -- 0xF9 SBC ABY, R201
  | sbcAbx (addr : Word)    -- 0xFD SBC ABX, R201
  | incAbx (addr : Word)    -- 0xFE INC ABX, R207
  deriving DecidableEq, Repr

end Sys2Proof
end

