-- ==== Sys2Proof/Decode.lean ====
section
/-! DEFINITION. The decoder and the encoder (30_encoding.md): the instruction table by opcode, total on any bytes, an
opcode without a row rejected; and the bytes of each instruction, written from the same encodings. -/

namespace Sys2Proof

/-- `v[7:0]` (00_scope.md R9). -/
def lowByte (w : Word) : Byte := w.setWidth 8

/-- `v[15:8]` (00_scope.md R9). -/
def highByte (w : Word) : Byte := (w >>> 8).setWidth 8

/-- `(hi << 8) | lo`: the little-endian word of two bytes (30_encoding.md R151, 20_memory.md R101). -/
def wordOfBytes (lo hi : Byte) : Word := (hi.setWidth 16 <<< 8) ||| lo.setWidth 16

/-- What follows an opcode byte in the stream (30_encoding.md R150). -/
inductive Form where
  /-- No operand byte. -/
  | implied (i : Instr)
  /-- No operand byte; one padding byte that is skipped and never read (BRK, 47_flags_system.md R298). -/
  | padded (i : Instr)
  /-- One operand byte. -/
  | byte (f : Byte → Instr)
  /-- Two operand bytes, low byte first. -/
  | word (f : Word → Instr)

/-- One entry of the instruction table (30_encoding.md R152): the opcode, the instruction it begins, and its base
cycle count (`CYCLE_BASE`'s default, R156). -/
structure Row where
  opcode : Byte
  form   : Form
  cycles : Nat

/-- The opcodes 0x00 to 0x0F (30_encoding.md R153, row 0). -/
def opcodes0 : List Row :=
  [⟨0x00, .padded .brk, 7⟩, ⟨0x01, .byte .oraIzx, 6⟩, ⟨0x05, .byte .oraZp0, 3⟩,
   ⟨0x06, .byte .aslZp0, 5⟩, ⟨0x08, .implied .php, 3⟩, ⟨0x09, .byte .oraImm, 2⟩,
   ⟨0x0A, .implied .aslAcc, 2⟩, ⟨0x0D, .word .oraAbs, 4⟩, ⟨0x0E, .word .aslAbs, 6⟩]

/-- The opcodes 0x10 to 0x1F (30_encoding.md R153, row 1). -/
def opcodes1 : List Row :=
  [⟨0x10, .byte .bpl, 2⟩, ⟨0x11, .byte .oraIzy, 5⟩, ⟨0x15, .byte .oraZpx, 4⟩,
   ⟨0x16, .byte .aslZpx, 6⟩, ⟨0x18, .implied .clc, 2⟩, ⟨0x19, .word .oraAby, 4⟩,
   ⟨0x1D, .word .oraAbx, 4⟩, ⟨0x1E, .word .aslAbx, 7⟩]

/-- The opcodes 0x20 to 0x2F (30_encoding.md R153, row 2). -/
def opcodes2 : List Row :=
  [⟨0x20, .word .jsr, 6⟩, ⟨0x21, .byte .andIzx, 6⟩, ⟨0x24, .byte .bitZp0, 3⟩,
   ⟨0x25, .byte .andZp0, 3⟩, ⟨0x26, .byte .rolZp0, 5⟩, ⟨0x28, .implied .plp, 4⟩,
   ⟨0x29, .byte .andImm, 2⟩, ⟨0x2A, .implied .rolAcc, 2⟩, ⟨0x2C, .word .bitAbs, 4⟩,
   ⟨0x2D, .word .andAbs, 4⟩, ⟨0x2E, .word .rolAbs, 6⟩]

/-- The opcodes 0x30 to 0x3F (30_encoding.md R153, row 3). -/
def opcodes3 : List Row :=
  [⟨0x30, .byte .bmi, 2⟩, ⟨0x31, .byte .andIzy, 5⟩, ⟨0x35, .byte .andZpx, 4⟩,
   ⟨0x36, .byte .rolZpx, 6⟩, ⟨0x38, .implied .sec, 2⟩, ⟨0x39, .word .andAby, 4⟩,
   ⟨0x3D, .word .andAbx, 4⟩, ⟨0x3E, .word .rolAbx, 7⟩]

/-- The opcodes 0x40 to 0x4F (30_encoding.md R153, row 4). -/
def opcodes4 : List Row :=
  [⟨0x40, .implied .rti, 6⟩, ⟨0x41, .byte .eorIzx, 6⟩, ⟨0x45, .byte .eorZp0, 3⟩,
   ⟨0x46, .byte .lsrZp0, 5⟩, ⟨0x48, .implied .pha, 3⟩, ⟨0x49, .byte .eorImm, 2⟩,
   ⟨0x4A, .implied .lsrAcc, 2⟩, ⟨0x4C, .word .jmpAbs, 3⟩, ⟨0x4D, .word .eorAbs, 4⟩,
   ⟨0x4E, .word .lsrAbs, 6⟩]

/-- The opcodes 0x50 to 0x5F (30_encoding.md R153, row 5). -/
def opcodes5 : List Row :=
  [⟨0x50, .byte .bvc, 2⟩, ⟨0x51, .byte .eorIzy, 5⟩, ⟨0x55, .byte .eorZpx, 4⟩,
   ⟨0x56, .byte .lsrZpx, 6⟩, ⟨0x58, .implied .cli, 2⟩, ⟨0x59, .word .eorAby, 4⟩,
   ⟨0x5D, .word .eorAbx, 4⟩, ⟨0x5E, .word .lsrAbx, 7⟩]

/-- The opcodes 0x60 to 0x6F (30_encoding.md R153, row 6). -/
def opcodes6 : List Row :=
  [⟨0x60, .implied .rts, 6⟩, ⟨0x61, .byte .adcIzx, 6⟩, ⟨0x65, .byte .adcZp0, 3⟩,
   ⟨0x66, .byte .rorZp0, 5⟩, ⟨0x68, .implied .pla, 4⟩, ⟨0x69, .byte .adcImm, 2⟩,
   ⟨0x6A, .implied .rorAcc, 2⟩, ⟨0x6C, .word .jmpInd, 5⟩, ⟨0x6D, .word .adcAbs, 4⟩,
   ⟨0x6E, .word .rorAbs, 6⟩]

/-- The opcodes 0x70 to 0x7F (30_encoding.md R153, row 7). -/
def opcodes7 : List Row :=
  [⟨0x70, .byte .bvs, 2⟩, ⟨0x71, .byte .adcIzy, 5⟩, ⟨0x75, .byte .adcZpx, 4⟩,
   ⟨0x76, .byte .rorZpx, 6⟩, ⟨0x78, .implied .sei, 2⟩, ⟨0x79, .word .adcAby, 4⟩,
   ⟨0x7D, .word .adcAbx, 4⟩, ⟨0x7E, .word .rorAbx, 7⟩]

/-- The opcodes 0x80 to 0x8F (30_encoding.md R153, row 8). -/
def opcodes8 : List Row :=
  [⟨0x81, .byte .staIzx, 6⟩, ⟨0x84, .byte .styZp0, 3⟩, ⟨0x85, .byte .staZp0, 3⟩,
   ⟨0x86, .byte .stxZp0, 3⟩, ⟨0x88, .implied .dey, 2⟩, ⟨0x8A, .implied .txa, 2⟩,
   ⟨0x8C, .word .styAbs, 4⟩, ⟨0x8D, .word .staAbs, 4⟩, ⟨0x8E, .word .stxAbs, 4⟩]

/-- The opcodes 0x90 to 0x9F (30_encoding.md R153, row 9). -/
def opcodes9 : List Row :=
  [⟨0x90, .byte .bcc, 2⟩, ⟨0x91, .byte .staIzy, 6⟩, ⟨0x94, .byte .styZpx, 4⟩,
   ⟨0x95, .byte .staZpx, 4⟩, ⟨0x96, .byte .stxZpy, 4⟩, ⟨0x98, .implied .tya, 2⟩,
   ⟨0x99, .word .staAby, 5⟩, ⟨0x9A, .implied .txs, 2⟩, ⟨0x9D, .word .staAbx, 5⟩]

/-- The opcodes 0xA0 to 0xAF (30_encoding.md R153, row A). -/
def opcodesA : List Row :=
  [⟨0xA0, .byte .ldyImm, 2⟩, ⟨0xA1, .byte .ldaIzx, 6⟩, ⟨0xA2, .byte .ldxImm, 2⟩,
   ⟨0xA4, .byte .ldyZp0, 3⟩, ⟨0xA5, .byte .ldaZp0, 3⟩, ⟨0xA6, .byte .ldxZp0, 3⟩,
   ⟨0xA8, .implied .tay, 2⟩, ⟨0xA9, .byte .ldaImm, 2⟩, ⟨0xAA, .implied .tax, 2⟩,
   ⟨0xAC, .word .ldyAbs, 4⟩, ⟨0xAD, .word .ldaAbs, 4⟩, ⟨0xAE, .word .ldxAbs, 4⟩]

/-- The opcodes 0xB0 to 0xBF (30_encoding.md R153, row B). -/
def opcodesB : List Row :=
  [⟨0xB0, .byte .bcs, 2⟩, ⟨0xB1, .byte .ldaIzy, 5⟩, ⟨0xB4, .byte .ldyZpx, 4⟩,
   ⟨0xB5, .byte .ldaZpx, 4⟩, ⟨0xB6, .byte .ldxZpy, 4⟩, ⟨0xB8, .implied .clv, 2⟩,
   ⟨0xB9, .word .ldaAby, 4⟩, ⟨0xBA, .implied .tsx, 2⟩, ⟨0xBC, .word .ldyAbx, 4⟩,
   ⟨0xBD, .word .ldaAbx, 4⟩, ⟨0xBE, .word .ldxAby, 4⟩]

/-- The opcodes 0xC0 to 0xCF (30_encoding.md R153, row C). -/
def opcodesC : List Row :=
  [⟨0xC0, .byte .cpyImm, 2⟩, ⟨0xC1, .byte .cmpIzx, 6⟩, ⟨0xC4, .byte .cpyZp0, 3⟩,
   ⟨0xC5, .byte .cmpZp0, 3⟩, ⟨0xC6, .byte .decZp0, 5⟩, ⟨0xC8, .implied .iny, 2⟩,
   ⟨0xC9, .byte .cmpImm, 2⟩, ⟨0xCA, .implied .dex, 2⟩, ⟨0xCC, .word .cpyAbs, 4⟩,
   ⟨0xCD, .word .cmpAbs, 4⟩, ⟨0xCE, .word .decAbs, 6⟩]

/-- The opcodes 0xD0 to 0xDF (30_encoding.md R153, row D). -/
def opcodesD : List Row :=
  [⟨0xD0, .byte .bne, 2⟩, ⟨0xD1, .byte .cmpIzy, 5⟩, ⟨0xD5, .byte .cmpZpx, 4⟩,
   ⟨0xD6, .byte .decZpx, 6⟩, ⟨0xD8, .implied .cld, 2⟩, ⟨0xD9, .word .cmpAby, 4⟩,
   ⟨0xDD, .word .cmpAbx, 4⟩, ⟨0xDE, .word .decAbx, 7⟩]

/-- The opcodes 0xE0 to 0xEF (30_encoding.md R153, row E). -/
def opcodesE : List Row :=
  [⟨0xE0, .byte .cpxImm, 2⟩, ⟨0xE1, .byte .sbcIzx, 6⟩, ⟨0xE4, .byte .cpxZp0, 3⟩,
   ⟨0xE5, .byte .sbcZp0, 3⟩, ⟨0xE6, .byte .incZp0, 5⟩, ⟨0xE8, .implied .inx, 2⟩,
   ⟨0xE9, .byte .sbcImm, 2⟩, ⟨0xEA, .implied .nop, 2⟩, ⟨0xEC, .word .cpxAbs, 4⟩,
   ⟨0xED, .word .sbcAbs, 4⟩, ⟨0xEE, .word .incAbs, 6⟩]

/-- The opcodes 0xF0 to 0xFF (30_encoding.md R153, row F). -/
def opcodesF : List Row :=
  [⟨0xF0, .byte .beq, 2⟩, ⟨0xF1, .byte .sbcIzy, 5⟩, ⟨0xF5, .byte .sbcZpx, 4⟩,
   ⟨0xF6, .byte .incZpx, 6⟩, ⟨0xF8, .implied .sed, 2⟩, ⟨0xF9, .word .sbcAby, 4⟩,
   ⟨0xFD, .word .sbcAbx, 4⟩, ⟨0xFE, .word .incAbx, 7⟩]

/-- The 256-entry instruction table with its undefined entries left out (30_encoding.md R152, R153). -/
def opcodeTable : List Row :=
  opcodes0 ++ opcodes1 ++ opcodes2 ++ opcodes3 ++ opcodes4 ++ opcodes5 ++ opcodes6 ++ opcodes7 ++
  opcodes8 ++ opcodes9 ++ opcodesA ++ opcodesB ++ opcodesC ++ opcodesD ++ opcodesE ++ opcodesF

/-- The row of an opcode; none for an illegal opcode (30_encoding.md R154). -/
def lookupOpcode (op : Byte) : Option Row := opcodeTable.find? (fun r => r.opcode == op)

/-- `CYCLE_BASE`'s default (30_encoding.md R156); 0 for an opcode that has no row. -/
def defaultCycles (op : Byte) : Nat := ((lookupOpcode op).map Row.cycles).getD 0

/-- The instruction and the bytes left over, from the bytes that follow an opcode. A missing operand byte is a refusal. -/
def Form.complete : Form → List Byte → Option (Instr × List Byte)
  | .implied i, rest => some (i, rest)
  | .padded i, rest => some (i, rest.drop 1)
  | .byte f, b :: rest => some (f b, rest)
  | .byte _, [] => none
  | .word f, lo :: hi :: rest => some (f (wordOfBytes lo hi), rest)
  | .word _, _ => none

/-- The instruction at the head of a list of bytes, and the bytes after it (30_encoding.md R152, R155): one byte is
looked up, then the operand bytes its mode needs are taken. -/
def decode : List Byte → Option (Instr × List Byte)
  | [] => none
  | op :: rest => (lookupOpcode op).bind (fun r => r.form.complete rest)

/-- The bytes an instruction occupies, lowest address first (30_encoding.md R150, R151, R153). BRK's padding byte
is written as 0x00 (log entry 12). -/
def encode : Instr → List Byte
  | .brk => [0x00, 0x00]
  | .oraIzx zp => [0x01, zp]
  | .oraZp0 zp => [0x05, zp]
  | .aslZp0 zp => [0x06, zp]
  | .php => [0x08]
  | .oraImm imm => [0x09, imm]
  | .aslAcc => [0x0A]
  | .oraAbs addr => [0x0D, lowByte addr, highByte addr]
  | .aslAbs addr => [0x0E, lowByte addr, highByte addr]
  | .bpl rel => [0x10, rel]
  | .oraIzy zp => [0x11, zp]
  | .oraZpx zp => [0x15, zp]
  | .aslZpx zp => [0x16, zp]
  | .clc => [0x18]
  | .oraAby addr => [0x19, lowByte addr, highByte addr]
  | .oraAbx addr => [0x1D, lowByte addr, highByte addr]
  | .aslAbx addr => [0x1E, lowByte addr, highByte addr]
  | .jsr addr => [0x20, lowByte addr, highByte addr]
  | .andIzx zp => [0x21, zp]
  | .bitZp0 zp => [0x24, zp]
  | .andZp0 zp => [0x25, zp]
  | .rolZp0 zp => [0x26, zp]
  | .plp => [0x28]
  | .andImm imm => [0x29, imm]
  | .rolAcc => [0x2A]
  | .bitAbs addr => [0x2C, lowByte addr, highByte addr]
  | .andAbs addr => [0x2D, lowByte addr, highByte addr]
  | .rolAbs addr => [0x2E, lowByte addr, highByte addr]
  | .bmi rel => [0x30, rel]
  | .andIzy zp => [0x31, zp]
  | .andZpx zp => [0x35, zp]
  | .rolZpx zp => [0x36, zp]
  | .sec => [0x38]
  | .andAby addr => [0x39, lowByte addr, highByte addr]
  | .andAbx addr => [0x3D, lowByte addr, highByte addr]
  | .rolAbx addr => [0x3E, lowByte addr, highByte addr]
  | .rti => [0x40]
  | .eorIzx zp => [0x41, zp]
  | .eorZp0 zp => [0x45, zp]
  | .lsrZp0 zp => [0x46, zp]
  | .pha => [0x48]
  | .eorImm imm => [0x49, imm]
  | .lsrAcc => [0x4A]
  | .jmpAbs addr => [0x4C, lowByte addr, highByte addr]
  | .eorAbs addr => [0x4D, lowByte addr, highByte addr]
  | .lsrAbs addr => [0x4E, lowByte addr, highByte addr]
  | .bvc rel => [0x50, rel]
  | .eorIzy zp => [0x51, zp]
  | .eorZpx zp => [0x55, zp]
  | .lsrZpx zp => [0x56, zp]
  | .cli => [0x58]
  | .eorAby addr => [0x59, lowByte addr, highByte addr]
  | .eorAbx addr => [0x5D, lowByte addr, highByte addr]
  | .lsrAbx addr => [0x5E, lowByte addr, highByte addr]
  | .rts => [0x60]
  | .adcIzx zp => [0x61, zp]
  | .adcZp0 zp => [0x65, zp]
  | .rorZp0 zp => [0x66, zp]
  | .pla => [0x68]
  | .adcImm imm => [0x69, imm]
  | .rorAcc => [0x6A]
  | .jmpInd ptr => [0x6C, lowByte ptr, highByte ptr]
  | .adcAbs addr => [0x6D, lowByte addr, highByte addr]
  | .rorAbs addr => [0x6E, lowByte addr, highByte addr]
  | .bvs rel => [0x70, rel]
  | .adcIzy zp => [0x71, zp]
  | .adcZpx zp => [0x75, zp]
  | .rorZpx zp => [0x76, zp]
  | .sei => [0x78]
  | .adcAby addr => [0x79, lowByte addr, highByte addr]
  | .adcAbx addr => [0x7D, lowByte addr, highByte addr]
  | .rorAbx addr => [0x7E, lowByte addr, highByte addr]
  | .staIzx zp => [0x81, zp]
  | .styZp0 zp => [0x84, zp]
  | .staZp0 zp => [0x85, zp]
  | .stxZp0 zp => [0x86, zp]
  | .dey => [0x88]
  | .txa => [0x8A]
  | .styAbs addr => [0x8C, lowByte addr, highByte addr]
  | .staAbs addr => [0x8D, lowByte addr, highByte addr]
  | .stxAbs addr => [0x8E, lowByte addr, highByte addr]
  | .bcc rel => [0x90, rel]
  | .staIzy zp => [0x91, zp]
  | .styZpx zp => [0x94, zp]
  | .staZpx zp => [0x95, zp]
  | .stxZpy zp => [0x96, zp]
  | .tya => [0x98]
  | .staAby addr => [0x99, lowByte addr, highByte addr]
  | .txs => [0x9A]
  | .staAbx addr => [0x9D, lowByte addr, highByte addr]
  | .ldyImm imm => [0xA0, imm]
  | .ldaIzx zp => [0xA1, zp]
  | .ldxImm imm => [0xA2, imm]
  | .ldyZp0 zp => [0xA4, zp]
  | .ldaZp0 zp => [0xA5, zp]
  | .ldxZp0 zp => [0xA6, zp]
  | .tay => [0xA8]
  | .ldaImm imm => [0xA9, imm]
  | .tax => [0xAA]
  | .ldyAbs addr => [0xAC, lowByte addr, highByte addr]
  | .ldaAbs addr => [0xAD, lowByte addr, highByte addr]
  | .ldxAbs addr => [0xAE, lowByte addr, highByte addr]
  | .bcs rel => [0xB0, rel]
  | .ldaIzy zp => [0xB1, zp]
  | .ldyZpx zp => [0xB4, zp]
  | .ldaZpx zp => [0xB5, zp]
  | .ldxZpy zp => [0xB6, zp]
  | .clv => [0xB8]
  | .ldaAby addr => [0xB9, lowByte addr, highByte addr]
  | .tsx => [0xBA]
  | .ldyAbx addr => [0xBC, lowByte addr, highByte addr]
  | .ldaAbx addr => [0xBD, lowByte addr, highByte addr]
  | .ldxAby addr => [0xBE, lowByte addr, highByte addr]
  | .cpyImm imm => [0xC0, imm]
  | .cmpIzx zp => [0xC1, zp]
  | .cpyZp0 zp => [0xC4, zp]
  | .cmpZp0 zp => [0xC5, zp]
  | .decZp0 zp => [0xC6, zp]
  | .iny => [0xC8]
  | .cmpImm imm => [0xC9, imm]
  | .dex => [0xCA]
  | .cpyAbs addr => [0xCC, lowByte addr, highByte addr]
  | .cmpAbs addr => [0xCD, lowByte addr, highByte addr]
  | .decAbs addr => [0xCE, lowByte addr, highByte addr]
  | .bne rel => [0xD0, rel]
  | .cmpIzy zp => [0xD1, zp]
  | .cmpZpx zp => [0xD5, zp]
  | .decZpx zp => [0xD6, zp]
  | .cld => [0xD8]
  | .cmpAby addr => [0xD9, lowByte addr, highByte addr]
  | .cmpAbx addr => [0xDD, lowByte addr, highByte addr]
  | .decAbx addr => [0xDE, lowByte addr, highByte addr]
  | .cpxImm imm => [0xE0, imm]
  | .sbcIzx zp => [0xE1, zp]
  | .cpxZp0 zp => [0xE4, zp]
  | .sbcZp0 zp => [0xE5, zp]
  | .incZp0 zp => [0xE6, zp]
  | .inx => [0xE8]
  | .sbcImm imm => [0xE9, imm]
  | .nop => [0xEA]
  | .cpxAbs addr => [0xEC, lowByte addr, highByte addr]
  | .sbcAbs addr => [0xED, lowByte addr, highByte addr]
  | .incAbs addr => [0xEE, lowByte addr, highByte addr]
  | .beq rel => [0xF0, rel]
  | .sbcIzy zp => [0xF1, zp]
  | .sbcZpx zp => [0xF5, zp]
  | .incZpx zp => [0xF6, zp]
  | .sed => [0xF8]
  | .sbcAby addr => [0xF9, lowByte addr, highByte addr]
  | .sbcAbx addr => [0xFD, lowByte addr, highByte addr]
  | .incAbx addr => [0xFE, lowByte addr, highByte addr]

/-- The host's question about one row of opcode_table.json: the instruction read from one whose bits are the low
`nbits` bits of `w`, first byte least significant, every higher bit 0. -/
def decodeTableWord (nbits w : Nat) : Option Instr :=
  let v := w % 2 ^ nbits
  (decode [BitVec.ofNat 8 v, BitVec.ofNat 8 (v / 256), BitVec.ofNat 8 (v / 65536)]).map Prod.fst

end Sys2Proof
end

