-- ==== Sys2Proof/Config.lean ====
section
/-! DEFINITION. What an implementation fixes: the named parameters of 00_scope.md R8 as plain data (a machine carries
them in its state and no step changes them, log entry 6), and the values that are any value at all, as constants
without a body. -/

namespace Sys2Proof

/-- `PUSHED_I_MODE` (00_scope.md R8, 60_exceptions.md R314). -/
inductive PushedIMode where
  | after
  | before
  deriving DecidableEq, Repr

/-- `DMA_PARITY` (00_scope.md R8, 20_memory.md R110). -/
inductive DmaParity where
  | evenIs513
  | evenIs514
  deriving DecidableEq, Repr

/-- A store of bytes: the (address, byte) pairs whose byte is not the one an unlisted address reads as, addresses strictly
rising (`Memory.wf`). What an unlisted address reads as is `unwrittenByte` of Machine/Memory.lean. -/
abbrev Machine.Memory := List Host.Cell

/-- `IRQ_LINE` (00_scope.md R8, 61_system_clock.md R344), a level at every tick, named by plain data (log entry 7). -/
inductive IrqLine where
  /-- The level `idle` but at the ticks of `flips`, where it is the other level. -/
  | listed (idle : Bool) (flips : List Nat)
  /-- Any function of the tick whatever: `Config.irqLine`. -/
  | free
  deriving DecidableEq, Repr

/-- `MEM_INIT` (00_scope.md R8, 10_state.md R64, R65, 63_cartridge.md R432): the bytes each memory holds before its first
write. The frame buffer's part is `Config.frameInit` (log entry 3). -/
structure MemInit where
  ram       : Machine.Memory
  nametable : Machine.Memory
  palette   : Machine.Memory
  oam       : Machine.Memory
  chrRam    : Machine.Memory
  deriving DecidableEq, Repr

/-- The parameters of 00_scope.md R8 that are plain data. -/
structure Params where
  /-- `CYCLE_BASE`: the opcodes whose base count is not the one of opcode_table.json, each with its count. -/
  cycleBase   : List (Byte × Nat)
  resetCycles : Nat
  irqCycles   : Nat
  nmiCycles   : Nat
  pushedIMode : PushedIMode
  irqLine     : IrqLine
  memInit     : MemInit
  dmaParity   : DmaParity
  /-- `CTRL_FILL`: the bit shifted into a controller shift register. -/
  ctrlFill    : Bool
  /-- `CTRL_OPEN_BUS`: the byte OR'd into a controller read. -/
  ctrlOpenBus : Byte
  deriving DecidableEq, Repr

/-- A draw of `MEM_INIT`: every byte the one an unlisted address reads as. DESIGN CHOICE, log entry 3: R8 gives no
default but the draw, and a state must hold one. -/
def MemInit.unlisted : MemInit where
  ram := []
  nametable := []
  palette := []
  oam := []
  chrRam := []

/-- Every parameter at the default of 00_scope.md R8, `MEM_INIT` at one draw. -/
def Params.default : Params where
  cycleBase := []
  resetCycles := 7
  irqCycles := 7
  nmiCycles := 7
  pushedIMode := .after
  irqLine := .listed false []
  memInit := MemInit.unlisted
  dmaParity := .evenIs513
  ctrlFill := false
  ctrlOpenBus := 0x40

/-- `SYSTEM_PALETTE` (00_scope.md R8, 62_ppu.md R393): the colour of each of the 64 indices. The spec leaves it OPEN
(92_eei_decisions.md D40), so it is a free value (log entry 5). -/
opaque Config.systemPalette : BitVec 6 → Colour

/-- The line of `IrqLine.free`: a level at each tick, any function (00_scope.md R8, 61_system_clock.md R344), so it is a
free value (log entry 7). -/
opaque Config.irqLine : Nat → Bool

/-- `MEM_INIT` of the frame buffer (10_state.md R64): what frame cell `256 * y + x` holds before its first write, any
value (92_eei_decisions.md D13), so it is a free value (log entry 4). -/
opaque Config.frameInit : Nat → Colour

end Sys2Proof
end

