-- ==== Sys2Proof/Machine/State.lean ====
section
/-! DEFINITION. The state of the machine as plain data, everything 10_state.md gives it, and its value right after
reset (70_reset_and_hazards.md R460 to R464). -/

namespace Sys2Proof.Machine

/-- The one fault reason of the core (60_exceptions.md R310). -/
inductive Fault where
  /-- Raised by the CPU's fetch (`executeInstruction`, Machine/Cpu.lean) when the byte `opcode` at `address` has no row of
  the instruction table. Safe: the spec stops the machine there (R310, 92_eei_decisions.md D2). It is recorded in
  `State.fault`, and the step that records it and every later one answer a next state, as R341 says (log entry 9). -/
  | illegalOpcode (opcode : Byte) (address : Word)
  deriving DecidableEq, Repr

/-- Why an operation has no successor state (70_reset_and_hazards.md R466), and the one refusal of an arm without a meaning. -/
inductive Refusal where
  /-- An instruction without a meaning yet, by its mnemonic. Raised by an arm of exec alone. Safe. -/
  | notModelled (mnemonic : String)
  /-- `Clock()` while not ready (R466 item 2). Raised by `clock`. Safe: the spec refuses it. -/
  | notReady
  /-- `Reset()` without a valid cartridge (R466 item 1). Raised by `systemReset`. Safe: the spec refuses it. -/
  | noCartridge
  /-- `Reset()` with a valid cartridge whose mapper is not supported (R466 item 1, 63_cartridge.md R435). Raised by
  `systemReset`. Safe: the spec refuses it. -/
  | noMapper
  /-- `SetController` with a port outside 1 and 2 (R466 item 3). Raised by `setController`. Safe: the spec refuses it. -/
  | noSuchPort (port : Nat)
  deriving DecidableEq, Repr

/-- The values that live within one instruction: the addressing scratch of 10_state.md R45, and the two counts
collected for the cycle total (40_cycle_and_addressing.md R171). No rule reads one across instructions. -/
structure Scratch where
  opcode      : Byte
  addrAbs     : Word
  addrRel     : Word
  fetched     : Byte
  dmaExtra    : Nat
  branchExtra : Nat
  deriving DecidableEq, Repr

/-- The CPU's registers and cycle count (10_state.md R30 to R36, R45, R46). -/
structure Cpu where
  a       : Byte
  x       : Byte
  y       : Byte
  sp      : Byte
  pc      : Word
  /-- Bits N V U B D I Z C, bit 7 to bit 0 (R36). -/
  p       : Byte
  cycles  : Nat
  scratch : Scratch
  deriving DecidableEq, Repr

/-- One slot of the sprite scanline list with its pattern shift bytes (10_state.md R60, R61). `x` is the delay counter. -/
structure SpriteSlot where
  y       : Byte
  tile    : Byte
  attr    : Byte
  x       : Byte
  shiftLo : Byte
  shiftHi : Byte
  deriving DecidableEq, Repr

/-- The PPU: its registers (10_state.md R50 to R57), pipeline state (R58 to R63) and memories (R64). -/
structure Ppu where
  ctrl                : Byte
  mask                : Byte
  status              : Byte
  v                   : Word
  t                   : Word
  fineX               : BitVec 3
  w                   : Bool
  dataBuffer          : Byte
  oamAddr             : Byte
  bgNextId            : Byte
  bgNextAttr          : Byte
  bgNextLo            : Byte
  bgNextHi            : Byte
  bgShiftPatLo        : Word
  bgShiftPatHi        : Word
  bgShiftAttrLo       : Word
  bgShiftAttrHi       : Word
  spriteCount         : Nat
  slots               : List SpriteSlot
  spriteZeroPossible  : Bool
  spriteZeroRendering : Bool
  scanline            : Int
  cycle               : Nat
  nmiRequest          : Bool
  frameComplete       : Bool
  /-- Bank `b`, offset `o` at `1024 * b + o`. -/
  nametable           : Memory
  palette             : Memory
  oam                 : Memory
  /-- The cells written so far, cell (y, x) at `256 * y + x`, positions strictly rising. -/
  frame               : List (Nat × Colour)
  deriving DecidableEq, Repr

/-- The nametable folding a cartridge selects (10_state.md R68, 20_memory.md R124). -/
inductive Mirroring where
  | horizontal
  | vertical
  | oneScreenLo
  | oneScreenHi
  deriving DecidableEq, Repr

/-- The cartridge (10_state.md R68). -/
structure Cart where
  prg       : Memory
  chr       : Memory
  mapperId  : Byte
  prgBanks  : Byte
  chrBanks  : Byte
  mirroring : Mirroring
  valid     : Bool
  deriving DecidableEq, Repr

/-- One controller port (10_state.md R66). -/
structure Port where
  live   : Byte
  shift  : Byte
  strobe : Bool
  deriving DecidableEq, Repr

/-- The whole machine (10_state.md). -/
structure State where
  cpu    : Cpu
  ppu    : Ppu
  cart   : Cart
  /-- The 2 KB internal RAM (R65). -/
  ram    : Memory
  /-- Port k = 0, at 0x4016. -/
  port1  : Port
  /-- Port k = 1, at 0x4017. -/
  port2  : Port
  tick   : Nat
  /-- None, or the recorded fault (R47). -/
  fault  : Option Fault
  /-- Reset() has been called since a valid cartridge with a mapper was loaded (61_system_clock.md R341). -/
  ready  : Bool
  /-- The machine's parameters (00_scope.md R8), which no step changes. -/
  params : Params
  deriving DecidableEq, Repr

/-- `opcode`, `addr_abs`, `addr_rel`, `fetched` cleared (70_reset_and_hazards.md R461), and no stall collected (log entry 10). -/
def Scratch.reset : Scratch where
  opcode := 0
  addrAbs := 0
  addrRel := 0
  fetched := 0
  dmaExtra := 0
  branchExtra := 0

/-- A slot after reset: the delay counter and the shift bytes 0 (10_state.md R61), an entry that is never read before it is
copied (R60, log entry 19). -/
def SpriteSlot.empty : SpriteSlot where
  y := 0
  tile := 0
  attr := 0
  x := 0
  shiftLo := 0
  shiftHi := 0

/-- The PPU's registers and pipeline after reset (70_reset_and_hazards.md R462), no byte of its memories written. -/
def Ppu.reset : Ppu where
  ctrl := 0
  mask := 0
  status := 0
  v := 0
  t := 0
  fineX := 0
  w := false
  dataBuffer := 0
  oamAddr := 0
  bgNextId := 0
  bgNextAttr := 0
  bgNextLo := 0
  bgNextHi := 0
  bgShiftPatLo := 0
  bgShiftPatHi := 0
  bgShiftAttrLo := 0
  bgShiftAttrHi := 0
  spriteCount := 0
  slots := List.replicate 8 SpriteSlot.empty
  spriteZeroPossible := false
  spriteZeroRendering := false
  scanline := -1
  cycle := 0
  nmiRequest := false
  frameComplete := false
  nametable := []
  palette := []
  oam := []
  frame := []

/-- The blank cartridge of `State.reset`: the header of 95_test_vectors.md Part 3 (one PRG bank, one CHR bank,
Horizontal, mapper 000) and no byte listed in PRG or CHR. DESIGN CHOICE, log entry 2. -/
def Cart.blank : Cart where
  prg := []
  chr := []
  mapperId := 0
  prgBanks := 1
  chrBanks := 1
  mirroring := .horizontal
  valid := true

/-- A controller port after reset (70_reset_and_hazards.md R463). -/
def Port.reset : Port where
  live := 0
  shift := 0
  strobe := false

/-- The machine right after its first Reset() (70_reset_and_hazards.md R460 to R464) under any parameters, with the blank
cartridge: the memories hold `MEM_INIT`, the PC is the word at 0xFFFC of that cartridge. -/
def State.powerOn (params : Params) : State where
  cpu := {
    a := 0
    x := 0
    y := 0
    sp := 0xFD
    pc := 0x0000
    p := 0x20
    cycles := params.resetCycles
    scratch := Scratch.reset }
  ppu := { Ppu.reset with
    nametable := params.memInit.nametable
    palette := params.memInit.palette
    oam := params.memInit.oam }
  cart := Cart.blank
  ram := params.memInit.ram
  port1 := Port.reset
  port2 := Port.reset
  tick := 0
  fault := none
  ready := true
  params := params

/-- The machine right after Reset() with every parameter at its default. -/
def State.reset : State := State.powerOn Params.default

end Sys2Proof.Machine
end

