-- ==== Sys2Proof/Machine/Flags.lean ====
section
/-! DEFINITION. The status register P by its flags (10_state.md R36 to R44), and every flag computation of the
instructions. -/

namespace Sys2Proof.Machine

/-- The flags of P (10_state.md R36). -/
inductive Flag where
  | carry
  | zero
  | interruptDisable
  | decimal
  | brk
  | unused
  | overflow
  | negative
  deriving DecidableEq, Repr

/-- The bit position of a flag (10_state.md R36). -/
def flagBit : Flag → Nat
  | .carry => 0
  | .zero => 1
  | .interruptDisable => 2
  | .decimal => 3
  | .brk => 4
  | .unused => 5
  | .overflow => 6
  | .negative => 7

/-- The byte with only that flag's bit. -/
def flagMask (f : Flag) : Byte := 1#8 <<< flagBit f

/-- `P.f` of a status byte. -/
def flagOf (p : Byte) (f : Flag) : Bool := p.getLsbD (flagBit f)

/-- A status byte with one flag replaced. -/
def withFlag (p : Byte) (f : Flag) (b : Bool) : Byte := if b then p ||| flagMask f else p &&& ~~~flagMask f

/-- `P.f` of the machine. -/
def State.flag (s : State) (f : Flag) : Bool := flagOf s.cpu.p f

/-- `P.C` as a number, the carry in. -/
def State.carryIn (s : State) : Nat := (s.flag .carry).toNat

/-- A write of P; every one sets U (10_state.md R36, 00_scope.md R11). -/
def State.setP (s : State) (p : Byte) : State := { s with cpu := { s.cpu with p := withFlag p .unused true } }

/-- A write of one flag of P. -/
def State.setFlag (s : State) (f : Flag) (b : Bool) : State := s.setP (withFlag s.cpu.p f b)

/-- `P.Z <- (r = 0); P.N <- r[7]` (10_state.md R38, R44). -/
def State.setZN (s : State) (r : Byte) : State := (s.setFlag .zero (r == 0)).setFlag .negative r.msb

/-- `trunc8(t)` of an addition `A + M + C` (41_arith_logic.md R200). -/
def sumByte (a m : Byte) (c : Nat) : Byte := BitVec.ofNat 8 (a.toNat + m.toNat + c)

/-- `P.C <- 1 if t > 0xFF` of an addition (41_arith_logic.md R200). -/
def sumCarry (a m : Byte) (c : Nat) : Bool := decide (a.toNat + m.toNat + c > 0xFF)

/-- `((~(A ^ M)) & (A ^ t) & 0x80) != 0`: the signed overflow of an addition (41_arith_logic.md R200). -/
def sumOverflow (a m : Byte) (c : Nat) : Bool :=
  decide ((~~~(a ^^^ m)) &&& (a ^^^ sumByte a m c) &&& 0x80 ≠ 0)

/-- `((t ^ A) & (t ^ W) & 0x80) != 0` of SBC, `W` the complemented operand (41_arith_logic.md R201). -/
def diffOverflow (a w : Byte) (c : Nat) : Bool :=
  decide ((sumByte a w c ^^^ a) &&& (sumByte a w c ^^^ w) &&& 0x80 ≠ 0)

/-- C, Z, N of a compare of register `r` with operand `m` (42_compare.md R220). -/
def State.compareFlags (s : State) (r m : Byte) : State :=
  ((s.setFlag .carry (decide (m.toNat ≤ r.toNat))).setFlag .zero (r == m)).setFlag .negative (r - m).msb

/-- The status byte PHP and BRK push: Break and Unused set (44_stack.md R242, 47_flags_system.md R298). -/
def statusForBreak (p : Byte) : Byte := p ||| 0x30

/-- The status byte an IRQ or NMI pushes: Break cleared, Unused set, and under `After` the interrupt-disable bit set
(60_exceptions.md R314). -/
def statusForInterrupt (mode : PushedIMode) (p : Byte) : Byte :=
  let s := (p &&& ~~~(0x10 : Byte)) ||| 0x20
  match mode with
  | .after => s ||| 0x04
  | .before => s

/-- The status byte PLP and RTI make of a pulled byte: Break cleared, Unused set (44_stack.md R244, 47_flags_system.md R299). -/
def statusPulled (b : Byte) : Byte := (b &&& 0xEF) ||| 0x20

end Sys2Proof.Machine
end

