-- ==== Sys2Proof/Machine/Memory.lean ====
section
/-! DEFINITION. Stores of bytes in their one canonical form, and the frame buffer's cells. -/

namespace Sys2Proof.Machine

/-- What an address that is not listed reads as. `MEM_INIT` (10_state.md R64, R65) lists the other bytes, so every content of
a memory is one list. DESIGN CHOICE, log entry 3. -/
def unwrittenByte : Byte := 0x00

/-- The byte at an address. -/
def Memory.read : Memory → Nat → Byte
  | [], _ => unwrittenByte
  | (k, b) :: m, a => if k = a then b else Memory.read m a

/-- The byte at an address replaced; the canonical form is kept. -/
def Memory.write : Memory → Nat → Byte → Memory
  | [], a, v => if v = unwrittenByte then [] else [(a, v)]
  | (k, b) :: m, a, v =>
    if a < k then (if v = unwrittenByte then (k, b) :: m else (a, v) :: (k, b) :: m)
    else if a = k then (if v = unwrittenByte then m else (a, v) :: m)
    else (k, b) :: Memory.write m a v

/-- Addresses from `lo` on, strictly rising, no byte equal to the unwritten one. -/
def Memory.wfFrom : Nat → Memory → Bool
  | _, [] => true
  | lo, (k, b) :: m => decide (lo ≤ k) && decide (b ≠ unwrittenByte) && Memory.wfFrom (k + 1) m

/-- The canonical form: equal memories are equal data. -/
def Memory.wf (m : Memory) : Bool := Memory.wfFrom 0 m

/-- Every listed address is below `size`. -/
def Memory.below (size : Nat) (m : Memory) : Bool := m.all (fun c => decide (c.1 < size))

/-- `MEM_INIT` names bytes of the memories only: 2048 of RAM and of nametables, 32 of palette, 256 of OAM, 8192 of CHR-RAM
(10_state.md R64, R65, 63_cartridge.md R432), in canonical form. -/
def memInitOk (m : MemInit) : Bool :=
  Memory.wf m.ram && Memory.below 2048 m.ram && Memory.wf m.nametable && Memory.below 2048 m.nametable &&
  Memory.wf m.palette && Memory.below 32 m.palette && Memory.wf m.oam && Memory.below 256 m.oam &&
  Memory.wf m.chrRam && Memory.below 8192 m.chrRam

/-- The bytes at addresses `base`, `base + 1`, ... as a memory. -/
def Memory.ofBytes : Nat → List Byte → Memory
  | _, [] => []
  | base, b :: bs =>
    if b = unwrittenByte then Memory.ofBytes (base + 1) bs else (base, b) :: Memory.ofBytes (base + 1) bs

/-- A frame cell replaced; positions stay strictly rising (10_state.md R64). -/
def frameWrite : List (Nat × Colour) → Nat → Colour → List (Nat × Colour)
  | [], i, c => [(i, c)]
  | (k, d) :: f, i, c =>
    if i < k then (i, c) :: (k, d) :: f
    else if i = k then (i, c) :: f
    else (k, d) :: frameWrite f i c

/-- A frame cell; before its first write it holds a free value (10_state.md R64, log entry 4). -/
def frameRead : List (Nat × Colour) → Nat → Colour
  | [], i => Config.frameInit i
  | (k, d) :: f, i => if k = i then d else frameRead f i

/-- Frame positions from `lo` on, strictly rising. -/
def frameWfFrom : Nat → List (Nat × Colour) → Bool
  | _, [] => true
  | lo, (k, _) :: f => decide (lo ≤ k) && frameWfFrom (k + 1) f

end Sys2Proof.Machine
end

