-- ==== Sys2Proof/Machine/Cartridge.lean ====
section
/-! DEFINITION. The cartridge: the iNES image and its header, the mapper interface and mapper 000 (63_cartridge.md). -/

namespace Sys2Proof.Machine

/-- The mappers in scope (63_cartridge.md R435). -/
inductive Mapper where
  | mapper000
  deriving DecidableEq, Repr

/-- The mapper constructed for a loaded cartridge: mapper 000 for id 0 with one or two PRG banks and no or one CHR bank,
none for anything else or an invalid image (63_cartridge.md R432, R435). -/
def Cart.mapper (c : Cart) : Option Mapper :=
  if c.valid = true ∧ c.mapperId = 0#8 ∧ (c.prgBanks = 1#8 ∨ c.prgBanks = 2#8) ∧ (c.chrBanks = 0#8 ∨ c.chrBanks = 1#8) then
    some .mapper000
  else none

/-- What a load reports to the host (61_system_clock.md R348, 63_cartridge.md R434, R435). -/
inductive LoadReport where
  /-- The image is complete and its mapper constructed. -/
  | loaded
  /-- A truncated header or body: `valid` is false. -/
  | invalidImage
  /-- A complete image with a mapper id or bank counts that are not supported: no mapper is constructed. -/
  | unsupportedMapper (mapperId prgBanks chrBanks : Byte)
  deriving DecidableEq, Repr

/-- The report on a cartridge just loaded (63_cartridge.md R435). -/
def Cart.report (c : Cart) : LoadReport :=
  if c.valid = false then .invalidImage
  else if c.mapper.isSome then .loaded
  else .unsupportedMapper c.mapperId c.prgBanks c.chrBanks

/-- The bytes of PRG (10_state.md R68). -/
def Cart.prgSize (c : Cart) : Nat := c.prgBanks.toNat * 16384

/-- The bytes of CHR: the banks', or 8192 of CHR-RAM when there is none (10_state.md R68). -/
def Cart.chrSize (c : Cart) : Nat := if c.chrBanks = 0#8 then 8192 else c.chrBanks.toNat * 8192

/-- The PRG offset of a CPU address at or above 0x8000 (63_cartridge.md R437). -/
def Cart.prgOffset (c : Cart) (a : Word) : Nat := (a &&& (if c.prgBanks = 2#8 then 0x7FFF#16 else 0x3FFF#16)).toNat

/-- `CPU_MapRead`: none declines, a byte claims (63_cartridge.md R436, R437). -/
def Cart.cpuMapRead (c : Cart) (a : Word) : Option Byte :=
  match c.mapper with
  | some .mapper000 => if 0x8000 ≤ a.toNat then some (c.prg.read (c.prgOffset a)) else none
  | none => none

/-- `CPU_MapWrite`: none declines, a cartridge claims and is the one after the write; PRG is ROM, so mapper 000 discards the
byte (63_cartridge.md R436, R438). -/
def Cart.cpuMapWrite (c : Cart) (a : Word) (_v : Byte) : Option Cart :=
  match c.mapper with
  | some .mapper000 => if 0x8000 ≤ a.toNat then some c else none
  | none => none

/-- `PPU_MapRead` of a 14-bit address (63_cartridge.md R436, R439). -/
def Cart.ppuMapRead (c : Cart) (a : Word) : Option Byte :=
  match c.mapper with
  | some .mapper000 => if a.toNat ≤ 0x1FFF then some (c.chr.read a.toNat) else none
  | none => none

/-- `PPU_MapWrite` of a 14-bit address: claimed only by CHR-RAM (63_cartridge.md R436, R440). -/
def Cart.ppuMapWrite (c : Cart) (a : Word) (v : Byte) : Option Cart :=
  match c.mapper with
  | some .mapper000 =>
    if a.toNat ≤ 0x1FFF ∧ c.chrBanks = 0#8 then some { c with chr := c.chr.write a.toNat v } else none
  | none => none

/-- Byte `i` of an image; only offsets inside the image are asked for. -/
def imageByte (image : List Byte) (i : Nat) : Byte := image.getD i 0

/-- `mapper_id` of the header (63_cartridge.md R431). -/
def headerMapperId (image : List Byte) : Byte := (imageByte image 7 &&& 0xF0) ||| (imageByte image 6 >>> 4)

/-- `mirroring` of the header (63_cartridge.md R431). -/
def headerMirroring (image : List Byte) : Mirroring :=
  if (imageByte image 6).getLsbD 0 then .vertical else .horizontal

/-- The offset of the PRG image: past the header, and past the trainer when flagged (63_cartridge.md R430 to R433). -/
def prgStart (image : List Byte) : Nat := 16 + (if (imageByte image 6).getLsbD 2 then 512 else 0)

/-- The cartridge after `LoadCartridge(image)` (63_cartridge.md R432), CHR-RAM holding `MEM_INIT`. A truncated header leaves every other field as it
was, a short body leaves PRG and CHR as they were (log entry 16). -/
def Cart.load (chrRam : Memory) (c : Cart) (image : List Byte) : Cart :=
  if image.length < 16 then { c with valid := false }
  else
    let prgBanks := imageByte image 4
    let chrBanks := imageByte image 5
    let o := prgStart image
    let prgSize := prgBanks.toNat * 16384
    let chrSize := chrBanks.toNat * 8192
    let header : Cart :=
      { c with
        mapperId := headerMapperId image
        prgBanks := prgBanks
        chrBanks := chrBanks
        mirroring := headerMirroring image
        valid := false }
    if image.length < o + prgSize + chrSize then header
    else
      { header with
        prg := Memory.ofBytes 0 ((image.drop o).take prgSize)
        chr := if chrBanks = 0#8 then chrRam else Memory.ofBytes 0 ((image.drop (o + prgSize)).take chrSize)
        valid := true }

end Sys2Proof.Machine
end

