-- ==== Sys2Proof/Machine/PpuBus.lean ====
section
/-! DEFINITION. The PPU's address space (20_memory.md R120 to R126) and its eight register ports on the CPU bus
(62_ppu.md R360 to R370). -/

namespace Sys2Proof.Machine

/-- A PPU address reduced to 14 bits (20_memory.md R120). -/
def ppuAddr (a : Word) : Word := a &&& 0x3FFF

/-- `NtBank(a)`: the nametable bank of an address, by the mirroring and the logical region (20_memory.md R124). -/
def ntBank (m : Mirroring) (a : Word) : Nat :=
  let q := ((a &&& 0x0FFF) >>> 10).toNat
  match m with
  | .vertical => q % 2
  | .horizontal => q / 2
  | .oneScreenLo => 0
  | .oneScreenHi => 1

/-- The nametable cell of an address (20_memory.md R124). -/
def ntIndex (m : Mirroring) (a : Word) : Nat := ntBank m a * 1024 + (a &&& 0x03FF).toNat

/-- `PalIndex(a)`: the palette cell of an address, with the four hard mirrors (20_memory.md R125). -/
def palIndex (a : Word) : Nat :=
  let i := (a &&& 0x001F).toNat
  if i = 0x10 ∨ i = 0x14 ∨ i = 0x18 ∨ i = 0x1C then i - 0x10 else i

/-- `PpuRead(addr)` (20_memory.md R121). It changes no state (R126). -/
def ppuRead (c : Cart) (p : Ppu) (addr : Word) : Byte :=
  let a := ppuAddr addr
  match c.ppuMapRead a with
  | some d => d
  | none =>
    if a.toNat ≤ 0x1FFF then 0x00
    else if a.toNat ≤ 0x3EFF then p.nametable.read (ntIndex c.mirroring a)
    else p.palette.read (palIndex a)

/-- `PpuWrite(addr, v)` (20_memory.md R122). -/
def ppuWrite (c : Cart) (p : Ppu) (addr : Word) (v : Byte) : Cart × Ppu :=
  let a := ppuAddr addr
  match c.ppuMapWrite a v with
  | some c' => (c', p)
  | none =>
    if a.toNat ≤ 0x1FFF then (c, p)
    else if a.toNat ≤ 0x3EFF then (c, { p with nametable := p.nametable.write (ntIndex c.mirroring a) v })
    else (c, { p with palette := p.palette.write (palIndex a) v })

/-- `coarseX(r)` (10_state.md R53). -/
def coarseX (r : Word) : Word := r &&& 0x001F

/-- `coarseY(r)` (10_state.md R53). -/
def coarseY (r : Word) : Word := (r >>> 5) &&& 0x001F

/-- `fineY(r)` (10_state.md R53). -/
def fineY (r : Word) : Word := (r >>> 12) &&& 0x0007

/-- The bits of `mask` in `r` replaced by those of `v`, the others kept (10_state.md R53: a setter replaces exactly its bits). -/
def replaceBits (r mask v : Word) : Word := (r &&& ~~~mask) ||| (v &&& mask)

/-- A byte as a word (`zext_16`, 00_scope.md R10). -/
def zext16 (b : Byte) : Word := b.setWidth 16

/-- How far a VRAM data access moves `v` (62_ppu.md R368). -/
def vramIncrement (p : Ppu) : Word := if p.ctrl.getLsbD 2 then 32 else 1

/-- Control write (62_ppu.md R361). -/
def writeControl (p : Ppu) (d : Byte) : Ppu :=
  { p with ctrl := d, t := replaceBits p.t 0x0C00 ((zext16 d &&& 0x03) <<< 10) }

/-- Mask write (62_ppu.md R362). -/
def writeMask (p : Ppu) (d : Byte) : Ppu := { p with mask := d }

/-- Status read: the byte, and the PPU with vblank and the write toggle cleared (62_ppu.md R363). -/
def readStatus (p : Ppu) : Byte × Ppu := (p.status &&& 0xE0, { p with status := p.status &&& 0x7F, w := false })

/-- OAM address write (62_ppu.md R364). -/
def writeOamAddr (p : Ppu) (d : Byte) : Ppu := { p with oamAddr := d }

/-- OAM data write (62_ppu.md R365). -/
def writeOamData (p : Ppu) (d : Byte) : Ppu :=
  { p with oam := p.oam.write p.oamAddr.toNat d, oamAddr := p.oamAddr + 1 }

/-- Scroll write (62_ppu.md R366). -/
def writeScroll (p : Ppu) (d : Byte) : Ppu :=
  if p.w = false then
    { p with fineX := d.setWidth 3, t := replaceBits p.t 0x001F (zext16 (d >>> 3)), w := true }
  else
    { p with
      t := replaceBits p.t 0x73E0 (((zext16 d &&& 0x07) <<< 12) ||| (zext16 (d >>> 3) <<< 5))
      w := false }

/-- VRAM address write (62_ppu.md R367). -/
def writeVramAddr (p : Ppu) (d : Byte) : Ppu :=
  if p.w = false then { p with t := (p.t &&& 0x00FF) ||| ((zext16 d &&& 0x3F) <<< 8), w := true }
  else
    let t := (p.t &&& 0xFF00) ||| zext16 d
    { p with t := t, v := t, w := false }

/-- VRAM data read: buffered below the palette, immediate in it (62_ppu.md R368). -/
def readVramData (c : Cart) (p : Ppu) : Byte × Ppu :=
  let a := ppuAddr p.v
  let d := ppuRead c p a
  let moved := p.v + vramIncrement p
  if 0x3F00 ≤ a.toNat then (d, { p with dataBuffer := d, v := moved })
  else (p.dataBuffer, { p with dataBuffer := d, v := moved })

/-- VRAM data write (62_ppu.md R369). -/
def writeVramData (c : Cart) (p : Ppu) (d : Byte) : Cart × Ppu :=
  let r := ppuWrite c p p.v d
  (r.1, { r.2 with v := p.v + vramIncrement p })

/-- A CPU read of PPU register `r`, 0 to 7 (62_ppu.md R360, R370). -/
def ppuRegRead (c : Cart) (p : Ppu) (r : Nat) : Byte × Ppu :=
  match r with
  | 2 => readStatus p
  | 4 => (p.oam.read p.oamAddr.toNat, p)
  | 7 => readVramData c p
  | _ => (0x00, p)

/-- A CPU write of `d` to PPU register `r`, 0 to 7 (62_ppu.md R360, R370). -/
def ppuRegWrite (c : Cart) (p : Ppu) (r : Nat) (d : Byte) : Cart × Ppu :=
  match r with
  | 0 => (c, writeControl p d)
  | 1 => (c, writeMask p d)
  | 3 => (c, writeOamAddr p d)
  | 4 => (c, writeOamData p d)
  | 5 => (c, writeScroll p d)
  | 6 => (c, writeVramAddr p d)
  | 7 => writeVramData c p d
  | _ => (c, p)

end Sys2Proof.Machine
end

