-- ==== Sys2Proof/Machine/Ops.lean ====
section
/-! DEFINITION. The named operations over registers and memory: register writes, the CPU bus (20_memory.md), OAM DMA and the
controllers, the stack (44_stack.md R240), the start and end of an instruction (40_cycle_and_addressing.md R171),
taking an exception and returning from one (60_exceptions.md R314, 47_flags_system.md R298, R299). -/

namespace Sys2Proof.Machine

/-! ### Registers (10_state.md R30 to R35, 00_scope.md R11) -/

def State.setA (s : State) (v : Byte) : State := { s with cpu := { s.cpu with a := v } }

def State.setX (s : State) (v : Byte) : State := { s with cpu := { s.cpu with x := v } }

def State.setY (s : State) (v : Byte) : State := { s with cpu := { s.cpu with y := v } }

def State.setSp (s : State) (v : Byte) : State := { s with cpu := { s.cpu with sp := v } }

def State.setPc (s : State) (v : Word) : State := { s with cpu := { s.cpu with pc := v } }

def State.setCycles (s : State) (n : Nat) : State := { s with cpu := { s.cpu with cycles := n } }

def State.setScratch (s : State) (k : Scratch) : State := { s with cpu := { s.cpu with scratch := k } }

/-! ### The CPU bus (20_memory.md R104 to R116) -/

/-- The RAM cell of an address of 0x0000-0x1FFF (20_memory.md R107). -/
def ramIndex (a : Word) : Nat := (a &&& 0x07FF).toNat

/-- The PPU register of an address of 0x2000-0x3FFF (20_memory.md R108). -/
def ppuPort (a : Word) : Nat := (a &&& 0x0007).toNat

/-- `DmaCycles(tick)` (20_memory.md R110). -/
def dmaCycles (parity : DmaParity) (tick : Nat) : Nat :=
  match parity with
  | .evenIs513 => if tick % 2 = 0 then 513 else 514
  | .evenIs514 => if tick % 2 = 0 then 514 else 513

/-- The RAM cell copied to OAM cell `i` by a DMA of `page` (20_memory.md R109). -/
def dmaSource (page : Byte) (i : Nat) : Nat := (page.toNat * 256 + i) % 0x0800

/-- OAM after its first `n` cells have been copied from RAM (20_memory.md R109). -/
def dmaCopy (ram : Memory) (page : Byte) (oam : Memory) : Nat → Memory
  | 0 => oam
  | n + 1 => (dmaCopy ram page oam n).write n (ram.read (dmaSource page n))

/-- `OamDma(page)`: all 256 cells at once, and the stall collected (20_memory.md R109, R110). -/
def oamDma (page : Byte) (s : State) : State :=
  { s with
    ppu := { s.ppu with oam := dmaCopy s.ram page s.ppu.oam 256 }
    cpu := { s.cpu with
      scratch := { s.cpu.scratch with
        dmaExtra := s.cpu.scratch.dmaExtra + dmaCycles s.params.dmaParity s.tick } } }

/-- `ControllerWrite(k, v)` on one port (20_memory.md R111). -/
def portWrite (v : Byte) (c : Port) : Port := { c with strobe := v.getLsbD 0, shift := c.live }

/-- `ControllerRead(k)` on one port: the byte read, and the port after (20_memory.md R112). -/
def portRead (params : Params) (c : Port) : Byte × Port :=
  let shift := if c.strobe then c.live else c.shift
  let d := (shift &&& 0x01) ||| params.ctrlOpenBus
  if c.strobe then (d, { c with shift := shift })
  else (d, { c with shift := (shift >>> 1) ||| (if params.ctrlFill then 0x80 else 0x00) })

/-- `MemRead(addr, 1)`: the byte, and the machine after the read's side effects (20_memory.md R104, R114). -/
def memRead (a : Word) (s : State) : Byte × State :=
  match s.cart.cpuMapRead a with
  | some d => (d, s)
  | none =>
    if a.toNat ≤ 0x1FFF then (s.ram.read (ramIndex a), s)
    else if a.toNat ≤ 0x3FFF then
      let r := ppuRegRead s.cart s.ppu (ppuPort a)
      (r.1, { s with ppu := r.2 })
    else if a = 0x4016#16 then
      let r := portRead s.params s.port1
      (r.1, { s with port1 := r.2 })
    else if a = 0x4017#16 then
      let r := portRead s.params s.port2
      (r.1, { s with port2 := r.2 })
    else (0x00, s)

/-- `MemWrite(addr, 1, v)`: the machine after the write and its side effects (20_memory.md R105, R115). -/
def memWrite (a : Word) (v : Byte) (s : State) : State :=
  match s.cart.cpuMapWrite a v with
  | some c => { s with cart := c }
  | none =>
    if a.toNat ≤ 0x1FFF then { s with ram := s.ram.write (ramIndex a) v }
    else if a.toNat ≤ 0x3FFF then
      let r := ppuRegWrite s.cart s.ppu (ppuPort a) v
      { s with cart := r.1, ppu := r.2 }
    else if a = 0x4014#16 then oamDma v s
    else if a = 0x4016#16 then { s with port1 := portWrite v s.port1 }
    else if a = 0x4017#16 then { s with port2 := portWrite v s.port2 }
    else s

/-- `MemRead(addr, 2)`: two reads, low byte first, at `addr` then `addr + 1` modulo 65536 (00_scope.md R12, 20_memory.md R101, R102). -/
def memReadWord (a : Word) (s : State) : Word × State :=
  let lo := memRead a s
  let hi := memRead (a + 1) lo.2
  (wordOfBytes lo.1 hi.1, hi.2)

/-! ### The stack (44_stack.md R240) -/

/-- The address of a stack cell: `0x0100 + SP`. -/
def stackAddr (sp : Byte) : Word := 0x0100#16 + zext16 sp

/-- `Push(v)`. -/
def push (v : Byte) (s : State) : State := (memWrite (stackAddr s.cpu.sp) v s).setSp (s.cpu.sp - 1)

/-- `Pull()`. -/
def pull (s : State) : Byte × State := memRead (stackAddr (s.cpu.sp + 1)) (s.setSp (s.cpu.sp + 1))

/-- `Push16(w)`: the high byte first. -/
def pushWord (w : Word) (s : State) : State := push (lowByte w) (push (highByte w) s)

/-- `Pull16()`: the low byte first. -/
def pullWord (s : State) : Word × State :=
  let lo := pull s
  let hi := pull lo.2
  (wordOfBytes lo.1 hi.1, hi.2)

/-! ### The frame of an instruction (40_cycle_and_addressing.md R171, R173) -/

/-- `CYCLE_BASE` of an opcode (30_encoding.md R156): the machine's own count, else the table's. -/
def baseCycles (params : Params) (op : Byte) : Nat :=
  ((params.cycleBase.find? (fun e => e.1 == op)).map Prod.snd).getD (defaultCycles op)

/-- The start of an instruction: U set, the opcode noted, no stall and no branch cycle collected yet. -/
def startInstr (op : Byte) (s : State) : State :=
  (s.setP s.cpu.p).setScratch { s.cpu.scratch with opcode := op, dmaExtra := 0, branchExtra := 0 }

/-- The end of an instruction: the cycle count set, `extra` being `a AND o`, and U set. -/
def finishInstr (op : Byte) (extra : Bool) (s : State) : State :=
  (s.setCycles (baseCycles s.params op + extra.toNat + s.cpu.scratch.branchExtra + s.cpu.scratch.dmaExtra)).setP s.cpu.p

/-! ### Taking an exception and returning from one -/

/-- The vectors (60_exceptions.md R313). -/
def nmiVector : Word := 0xFFFA#16

def resetVector : Word := 0xFFFC#16

def irqVector : Word := 0xFFFE#16

/-- Taking an exception, the part BRK, IRQ and NMI share: `pc` pushed high byte first, then the status byte; I set; the PC
read from the vector, low byte first (60_exceptions.md R314, 47_flags_system.md R298). -/
def takeException (pc : Word) (status : Byte) (vector : Word) (s : State) : State :=
  let pushed := push status (pushWord pc s)
  let r := memReadWord vector (pushed.setFlag .interruptDisable true)
  r.2.setPc r.1

/-- `InterruptEntry(vector, n)`: the entry of IRQ and NMI; the count replaces any pending one (60_exceptions.md R314). -/
def interruptEntry (vector : Word) (n : Nat) (s : State) : State :=
  (takeException s.cpu.pc (statusForInterrupt s.params.pushedIMode s.cpu.p) vector s).setCycles n

/-- `IrqEntry()` (60_exceptions.md R315). -/
def irqEntry (s : State) : State :=
  if s.flag .interruptDisable then s else interruptEntry irqVector s.params.irqCycles s

/-- `NmiEntry()` (60_exceptions.md R316). -/
def nmiEntry (s : State) : State := interruptEntry nmiVector s.params.nmiCycles s

/-- Returning from an exception: P pulled, Break cleared and Unused set, then PC pulled (47_flags_system.md R299, 60_exceptions.md R319). -/
def returnFromException (s : State) : State :=
  let st := pull s
  let r := pullWord (st.2.setP (statusPulled st.1))
  r.2.setPc r.1

end Sys2Proof.Machine
end

