-- ==== Sys2Proof/Machine/Operands.lean ====
section
/-! DEFINITION. The addressing modes (40_cycle_and_addressing.md R177 to R189), the operand fetch and write-back (R176), and the
shapes an instruction has: the PC already stands past the instruction's bytes when a meaning runs (R172, log entry 11). -/

namespace Sys2Proof.Machine

/-- What an addressing mode gives: the machine after its reads, the effective address, and whether a page was crossed. -/
structure Addressed where
  after   : State
  ea      : Word
  crossed : Bool

/-- The effective address noted in the scratch state (10_state.md R45). -/
def State.noteEa (s : State) (ea : Word) : State := s.setScratch { s.cpu.scratch with addrAbs := ea }

/-- The branch offset noted in the scratch state (10_state.md R45). -/
def State.noteRel (s : State) (rel : Word) : State := s.setScratch { s.cpu.scratch with addrRel := rel }

/-- The operand byte noted in the scratch state (10_state.md R45). -/
def State.noteFetched (s : State) (m : Byte) : State := s.setScratch { s.cpu.scratch with fetched := m }

/-- A mode that reads no memory and reports no page crossing. -/
def addressedAt (s : State) (ea : Word) : Addressed := { after := s.noteEa ea, ea := ea, crossed := false }

/-- IMM: the operand byte's own address (R178). -/
def eaImm (s : State) : Word := s.cpu.pc - 1

/-- ZPX and ZPY: the sum wraps inside page 0 (R180, R181). -/
def eaZeroPage (zp index : Byte) : Word := zext16 (zp + index)

/-- ZP0 (R179). -/
def modeZp0 (zp : Byte) (s : State) : Addressed := addressedAt s (zext16 zp)

/-- ZPX (R180). -/
def modeZpx (zp : Byte) (s : State) : Addressed := addressedAt s (eaZeroPage zp s.cpu.x)

/-- ZPY (R181). -/
def modeZpy (zp : Byte) (s : State) : Addressed := addressedAt s (eaZeroPage zp s.cpu.y)

/-- ABS (R183). -/
def modeAbs (addr : Word) (s : State) : Addressed := addressedAt s addr

/-- `EA[15:8] != hi`: the indexed address lies in another page than its base (R184, R185, R188). -/
def pageCrossed (base ea : Word) : Bool := highByte ea != highByte base

/-- A base address indexed by a register, the carry going into the high byte (R184, R185, R188, R189). -/
def indexed (base : Word) (index : Byte) (s : State) : Addressed :=
  let ea := base + zext16 index
  { after := s.noteEa ea, ea := ea, crossed := pageCrossed base ea }

/-- ABX (R184). -/
def modeAbx (addr : Word) (s : State) : Addressed := indexed addr s.cpu.x s

/-- ABY (R185). -/
def modeAby (addr : Word) (s : State) : Addressed := indexed addr s.cpu.y s

/-- The address of the high byte of JMP's pointer: the pointer's own page wraps (R186). -/
def indirectHighAddr (ptr : Word) : Word := if lowByte ptr = 0xFF#8 then ptr &&& 0xFF00#16 else ptr + 1

/-- IND (R186). -/
def modeInd (ptr : Word) (s : State) : Addressed :=
  let lo := memRead ptr s
  let hi := memRead (indirectHighAddr ptr) lo.2
  addressedAt hi.2 (wordOfBytes lo.1 hi.1)

/-- The word at a zero-page pointer whose two bytes both lie in page 0 (R187, R188). -/
def zeroPageWord (zp : Byte) (s : State) : Word × State :=
  let lo := memRead (zext16 zp) s
  let hi := memRead (zext16 (zp + 1)) lo.2
  (wordOfBytes lo.1 hi.1, hi.2)

/-- IZX: the pointer is indexed by X before it is read (R187). -/
def modeIzx (zp : Byte) (s : State) : Addressed :=
  let r := zeroPageWord (zp + s.cpu.x) s
  addressedAt r.2 r.1

/-- IZY: the pointer is read, then the address is indexed by Y (R188). -/
def modeIzy (zp : Byte) (s : State) : Addressed :=
  let r := zeroPageWord zp s
  indexed r.1 r.2.cpu.y r.2

/-- `sext_16(rel8)` (R182, 00_scope.md R10). -/
def sext16 (b : Byte) : Word := b.signExtend 16

/-! ### Instruction shapes. `op` is the opcode, `o` the operation's page-crossing eligibility (30_encoding.md R155). -/

/-- An instruction over the immediate operand: `M` is the byte fetched with the instruction (R176, R178). -/
def runImm (op : Byte) (effect : Byte → State → State) (m : Byte) (s : State) : Host.Outcome State Fault Refusal :=
  let s₀ := startInstr op s
  .next (finishInstr op false (effect m ((s₀.noteEa (eaImm s₀)).noteFetched m)))

/-- An instruction over the operand `M` read once at the effective address (R176). -/
def runRead (op : Byte) (o : Bool) (mode : State → Addressed) (effect : Byte → State → State) (s : State) :
    Host.Outcome State Fault Refusal :=
  let at' := mode (startInstr op s)
  let m := memRead at'.ea at'.after
  .next (finishInstr op (at'.crossed && o) (effect m.1 (m.2.noteFetched m.1)))

/-- A store of a register: one write at the effective address, no read of it (R176, 45_load_store_transfer.md R253 to R255). -/
def runStore (op : Byte) (mode : State → Addressed) (value : State → Byte) (s : State) : Host.Outcome State Fault Refusal :=
  let at' := mode (startInstr op s)
  .next (finishInstr op false (memWrite at'.ea (value at'.after) at'.after))

/-- A read-modify-write of memory: `effect` gives the result and the machine with its flags, the result is written back
at the effective address (R176). -/
def runModify (op : Byte) (mode : State → Addressed) (effect : Byte → State → Byte × State) (s : State) :
    Host.Outcome State Fault Refusal :=
  let at' := mode (startInstr op s)
  let m := memRead at'.ea at'.after
  let r := effect m.1 (m.2.noteFetched m.1)
  .next (finishInstr op false (memWrite at'.ea r.1 r.2))

/-- A read-modify-write of A, mode IMP (R176, R177). -/
def runModifyA (op : Byte) (effect : Byte → State → Byte × State) (s : State) : Host.Outcome State Fault Refusal :=
  let s₀ := startInstr op s
  let r := effect s₀.cpu.a (s₀.noteFetched s₀.cpu.a)
  .next (finishInstr op false (r.2.setA r.1))

/-- An instruction of mode IMP with no operand fetch (R177). -/
def runImplied (op : Byte) (effect : State → State) (s : State) : Host.Outcome State Fault Refusal :=
  .next (finishInstr op false (effect (startInstr op s)))

/-- An instruction whose operation takes the effective address itself (JMP, JSR). -/
def runTarget (op : Byte) (mode : State → Addressed) (effect : Word → State → State) (s : State) :
    Host.Outcome State Fault Refusal :=
  let at' := mode (startInstr op s)
  .next (finishInstr op false (effect at'.ea at'.after))

end Sys2Proof.Machine
end

