-- ==== Sys2Proof/Machine/Arith.lean ====
section
/-! DEFINITION. Addition and subtraction (41_arith_logic.md R200 to R202). Both are binary whatever P.D holds. -/

namespace Sys2Proof.Machine

/-- ADC: `A <- trunc8(A + M + C)`; C, Z, V, N (41_arith_logic.md R200). -/
def opAdc (m : Byte) (s : State) : State :=
  let a := s.cpu.a
  let c := s.carryIn
  let r := sumByte a m c
  ((((s.setFlag .carry (sumCarry a m c)).setFlag .zero (r == 0)).setFlag .overflow (sumOverflow a m c)).setFlag
    .negative r.msb).setA r

/-- ADC IZX, opcode 0x61 (41_arith_logic.md R200). -/
def execAdcIzx (zp : Byte) (s : State) : Host.Outcome State Fault Refusal :=
  runRead 0x61 true (modeIzx zp) opAdc s

/-- ADC ZP0, opcode 0x65 (41_arith_logic.md R200). -/
def execAdcZp0 (zp : Byte) (s : State) : Host.Outcome State Fault Refusal :=
  runRead 0x65 true (modeZp0 zp) opAdc s

/-- ADC IMM, opcode 0x69 (41_arith_logic.md R200). -/
def execAdcImm (imm : Byte) (s : State) : Host.Outcome State Fault Refusal :=
  runImm 0x69 opAdc imm s

/-- ADC ABS, opcode 0x6D (41_arith_logic.md R200). -/
def execAdcAbs (addr : Word) (s : State) : Host.Outcome State Fault Refusal :=
  runRead 0x6D true (modeAbs addr) opAdc s

/-- ADC IZY, opcode 0x71 (41_arith_logic.md R200). -/
def execAdcIzy (zp : Byte) (s : State) : Host.Outcome State Fault Refusal :=
  runRead 0x71 true (modeIzy zp) opAdc s

/-- ADC ZPX, opcode 0x75 (41_arith_logic.md R200). -/
def execAdcZpx (zp : Byte) (s : State) : Host.Outcome State Fault Refusal :=
  runRead 0x75 true (modeZpx zp) opAdc s

/-- ADC ABY, opcode 0x79 (41_arith_logic.md R200). -/
def execAdcAby (addr : Word) (s : State) : Host.Outcome State Fault Refusal :=
  runRead 0x79 true (modeAby addr) opAdc s

/-- ADC ABX, opcode 0x7D (41_arith_logic.md R200). -/
def execAdcAbx (addr : Word) (s : State) : Host.Outcome State Fault Refusal :=
  runRead 0x7D true (modeAbx addr) opAdc s

/-- SBC: the addition of the complemented operand, carry meaning no borrow; C, Z, V, N (41_arith_logic.md R201). -/
def opSbc (m : Byte) (s : State) : State :=
  let a := s.cpu.a
  let c := s.carryIn
  let w := m ^^^ 0xFF
  let r := sumByte a w c
  ((((s.setFlag .carry (sumCarry a w c)).setFlag .zero (r == 0)).setFlag .overflow (diffOverflow a w c)).setFlag
    .negative r.msb).setA r

/-- SBC IZX, opcode 0xE1 (41_arith_logic.md R201). -/
def execSbcIzx (zp : Byte) (s : State) : Host.Outcome State Fault Refusal :=
  runRead 0xE1 true (modeIzx zp) opSbc s

/-- SBC ZP0, opcode 0xE5 (41_arith_logic.md R201). -/
def execSbcZp0 (zp : Byte) (s : State) : Host.Outcome State Fault Refusal :=
  runRead 0xE5 true (modeZp0 zp) opSbc s

/-- SBC IMM, opcode 0xE9 (41_arith_logic.md R201). -/
def execSbcImm (imm : Byte) (s : State) : Host.Outcome State Fault Refusal :=
  runImm 0xE9 opSbc imm s

/-- SBC ABS, opcode 0xED (41_arith_logic.md R201). -/
def execSbcAbs (addr : Word) (s : State) : Host.Outcome State Fault Refusal :=
  runRead 0xED true (modeAbs addr) opSbc s

/-- SBC IZY, opcode 0xF1 (41_arith_logic.md R201). -/
def execSbcIzy (zp : Byte) (s : State) : Host.Outcome State Fault Refusal :=
  runRead 0xF1 true (modeIzy zp) opSbc s

/-- SBC ZPX, opcode 0xF5 (41_arith_logic.md R201). -/
def execSbcZpx (zp : Byte) (s : State) : Host.Outcome State Fault Refusal :=
  runRead 0xF5 true (modeZpx zp) opSbc s

/-- SBC ABY, opcode 0xF9 (41_arith_logic.md R201). -/
def execSbcAby (addr : Word) (s : State) : Host.Outcome State Fault Refusal :=
  runRead 0xF9 true (modeAby addr) opSbc s

/-- SBC ABX, opcode 0xFD (41_arith_logic.md R201). -/
def execSbcAbx (addr : Word) (s : State) : Host.Outcome State Fault Refusal :=
  runRead 0xFD true (modeAbx addr) opSbc s

end Sys2Proof.Machine
end

