-- ==== Sys2Proof/Machine/Compare.lean ====
section
/-! DEFINITION. Compare instructions (42_compare.md R220 to R223). -/

namespace Sys2Proof.Machine

/-- CMP: the compare law on A (42_compare.md R221). -/
def opCmp (m : Byte) (s : State) : State := s.compareFlags s.cpu.a m

/-- CMP IZX, opcode 0xC1 (42_compare.md R221). -/
def execCmpIzx (zp : Byte) (s : State) : Host.Outcome State Fault Refusal :=
  runRead 0xC1 true (modeIzx zp) opCmp s

/-- CMP ZP0, opcode 0xC5 (42_compare.md R221). -/
def execCmpZp0 (zp : Byte) (s : State) : Host.Outcome State Fault Refusal :=
  runRead 0xC5 true (modeZp0 zp) opCmp s

/-- CMP IMM, opcode 0xC9 (42_compare.md R221). -/
def execCmpImm (imm : Byte) (s : State) : Host.Outcome State Fault Refusal :=
  runImm 0xC9 opCmp imm s

/-- CMP ABS, opcode 0xCD (42_compare.md R221). -/
def execCmpAbs (addr : Word) (s : State) : Host.Outcome State Fault Refusal :=
  runRead 0xCD true (modeAbs addr) opCmp s

/-- CMP IZY, opcode 0xD1 (42_compare.md R221). -/
def execCmpIzy (zp : Byte) (s : State) : Host.Outcome State Fault Refusal :=
  runRead 0xD1 true (modeIzy zp) opCmp s

/-- CMP ZPX, opcode 0xD5 (42_compare.md R221). -/
def execCmpZpx (zp : Byte) (s : State) : Host.Outcome State Fault Refusal :=
  runRead 0xD5 true (modeZpx zp) opCmp s

/-- CMP ABY, opcode 0xD9 (42_compare.md R221). -/
def execCmpAby (addr : Word) (s : State) : Host.Outcome State Fault Refusal :=
  runRead 0xD9 true (modeAby addr) opCmp s

/-- CMP ABX, opcode 0xDD (42_compare.md R221). -/
def execCmpAbx (addr : Word) (s : State) : Host.Outcome State Fault Refusal :=
  runRead 0xDD true (modeAbx addr) opCmp s

/-- CPX: the compare law on X (42_compare.md R222). -/
def opCpx (m : Byte) (s : State) : State := s.compareFlags s.cpu.x m

/-- CPX IMM, opcode 0xE0 (42_compare.md R222). -/
def execCpxImm (imm : Byte) (s : State) : Host.Outcome State Fault Refusal :=
  runImm 0xE0 opCpx imm s

/-- CPX ZP0, opcode 0xE4 (42_compare.md R222). -/
def execCpxZp0 (zp : Byte) (s : State) : Host.Outcome State Fault Refusal :=
  runRead 0xE4 false (modeZp0 zp) opCpx s

/-- CPX ABS, opcode 0xEC (42_compare.md R222). -/
def execCpxAbs (addr : Word) (s : State) : Host.Outcome State Fault Refusal :=
  runRead 0xEC false (modeAbs addr) opCpx s

/-- CPY: the compare law on Y (42_compare.md R223). -/
def opCpy (m : Byte) (s : State) : State := s.compareFlags s.cpu.y m

/-- CPY IMM, opcode 0xC0 (42_compare.md R223). -/
def execCpyImm (imm : Byte) (s : State) : Host.Outcome State Fault Refusal :=
  runImm 0xC0 opCpy imm s

/-- CPY ZP0, opcode 0xC4 (42_compare.md R223). -/
def execCpyZp0 (zp : Byte) (s : State) : Host.Outcome State Fault Refusal :=
  runRead 0xC4 false (modeZp0 zp) opCpy s

/-- CPY ABS, opcode 0xCC (42_compare.md R223). -/
def execCpyAbs (addr : Word) (s : State) : Host.Outcome State Fault Refusal :=
  runRead 0xCC false (modeAbs addr) opCpy s

end Sys2Proof.Machine
end

