-- ==== Sys2Proof/Machine/Control.lean ====
section
/-! DEFINITION. Branches, jumps and subroutines (46_control_transfer.md R270 to R281). -/

namespace Sys2Proof.Machine

/-- `Branch(cond)`: the PC, which stands past the branch, moved by the offset when the condition holds, and the branch's own
extra cycles collected (46_control_transfer.md R270). -/
def branchTo (taken : Bool) (rel : Word) (s : State) : State :=
  if taken then
    let target := s.cpu.pc + rel
    (s.setScratch { s.cpu.scratch with branchExtra := if pageCrossed s.cpu.pc target then 2 else 1 }).setPc target
  else s

/-- A branch: mode REL, then the branch law (40_cycle_and_addressing.md R182, 46_control_transfer.md R270). -/
def runBranch (op : Byte) (cond : State → Bool) (rel : Byte) (s : State) : Host.Outcome State Fault Refusal :=
  let s₀ := (startInstr op s).noteRel (sext16 rel)
  .next (finishInstr op false (branchTo (cond s₀) (sext16 rel) s₀))

/-- BCC's condition (46_control_transfer.md R271). -/
def condBcc (s : State) : Bool := !s.flag .carry

/-- BCC REL, opcode 0x90 (46_control_transfer.md R271). -/
def execBcc (rel : Byte) (s : State) : Host.Outcome State Fault Refusal :=
  runBranch 0x90 condBcc rel s

/-- BCS's condition (46_control_transfer.md R272). -/
def condBcs (s : State) : Bool := s.flag .carry

/-- BCS REL, opcode 0xB0 (46_control_transfer.md R272). -/
def execBcs (rel : Byte) (s : State) : Host.Outcome State Fault Refusal :=
  runBranch 0xB0 condBcs rel s

/-- BEQ's condition (46_control_transfer.md R273). -/
def condBeq (s : State) : Bool := s.flag .zero

/-- BEQ REL, opcode 0xF0 (46_control_transfer.md R273). -/
def execBeq (rel : Byte) (s : State) : Host.Outcome State Fault Refusal :=
  runBranch 0xF0 condBeq rel s

/-- BMI's condition (46_control_transfer.md R274). -/
def condBmi (s : State) : Bool := s.flag .negative

/-- BMI REL, opcode 0x30 (46_control_transfer.md R274). -/
def execBmi (rel : Byte) (s : State) : Host.Outcome State Fault Refusal :=
  runBranch 0x30 condBmi rel s

/-- BNE's condition (46_control_transfer.md R275). -/
def condBne (s : State) : Bool := !s.flag .zero

/-- BNE REL, opcode 0xD0 (46_control_transfer.md R275). -/
def execBne (rel : Byte) (s : State) : Host.Outcome State Fault Refusal :=
  runBranch 0xD0 condBne rel s

/-- BPL's condition (46_control_transfer.md R276). -/
def condBpl (s : State) : Bool := !s.flag .negative

/-- BPL REL, opcode 0x10 (46_control_transfer.md R276). -/
def execBpl (rel : Byte) (s : State) : Host.Outcome State Fault Refusal :=
  runBranch 0x10 condBpl rel s

/-- BVC's condition (46_control_transfer.md R277). -/
def condBvc (s : State) : Bool := !s.flag .overflow

/-- BVC REL, opcode 0x50 (46_control_transfer.md R277). -/
def execBvc (rel : Byte) (s : State) : Host.Outcome State Fault Refusal :=
  runBranch 0x50 condBvc rel s

/-- BVS's condition (46_control_transfer.md R278). -/
def condBvs (s : State) : Bool := s.flag .overflow

/-- BVS REL, opcode 0x70 (46_control_transfer.md R278). -/
def execBvs (rel : Byte) (s : State) : Host.Outcome State Fault Refusal :=
  runBranch 0x70 condBvs rel s

/-- JMP: the PC takes the effective address (46_control_transfer.md R279). -/
def opJmp (ea : Word) (s : State) : State := s.setPc ea

/-- JMP ABS, opcode 0x4C (46_control_transfer.md R279). -/
def execJmpAbs (addr : Word) (s : State) : Host.Outcome State Fault Refusal :=
  runTarget 0x4C (modeAbs addr) opJmp s

/-- JMP IND, opcode 0x6C (46_control_transfer.md R279). -/
def execJmpInd (ptr : Word) (s : State) : Host.Outcome State Fault Refusal :=
  runTarget 0x6C (modeInd ptr) opJmp s

/-- JSR: the address of the JSR's last byte pushed, high byte first; the PC takes the effective address (46_control_transfer.md R280). -/
def opJsr (ea : Word) (s : State) : State := (pushWord (s.cpu.pc - 1) s).setPc ea

/-- JSR ABS, opcode 0x20 (46_control_transfer.md R280). -/
def execJsr (addr : Word) (s : State) : Host.Outcome State Fault Refusal :=
  runTarget 0x20 (modeAbs addr) opJsr s

/-- RTS: the PC is the pulled word plus one (46_control_transfer.md R281). -/
def opRts (s : State) : State :=
  let r := pullWord s
  r.2.setPc (r.1 + 1)

/-- RTS IMP, opcode 0x60 (46_control_transfer.md R281). -/
def execRts (s : State) : Host.Outcome State Fault Refusal :=
  runImplied 0x60 opRts s

end Sys2Proof.Machine
end

