-- ==== Sys2Proof/Machine/IncDec.lean ====
section
/-! DEFINITION. Increment and decrement (41_arith_logic.md R207 to R212). -/

namespace Sys2Proof.Machine

/-- INC: the memory byte plus one; Z, N (41_arith_logic.md R207). -/
def opInc (m : Byte) (s : State) : Byte × State := (m + 1, s.setZN (m + 1))

/-- INC ZP0, opcode 0xE6 (41_arith_logic.md R207). -/
def execIncZp0 (zp : Byte) (s : State) : Host.Outcome State Fault Refusal :=
  runModify 0xE6 (modeZp0 zp) opInc s

/-- INC ABS, opcode 0xEE (41_arith_logic.md R207). -/
def execIncAbs (addr : Word) (s : State) : Host.Outcome State Fault Refusal :=
  runModify 0xEE (modeAbs addr) opInc s

/-- INC ZPX, opcode 0xF6 (41_arith_logic.md R207). -/
def execIncZpx (zp : Byte) (s : State) : Host.Outcome State Fault Refusal :=
  runModify 0xF6 (modeZpx zp) opInc s

/-- INC ABX, opcode 0xFE (41_arith_logic.md R207). -/
def execIncAbx (addr : Word) (s : State) : Host.Outcome State Fault Refusal :=
  runModify 0xFE (modeAbx addr) opInc s

/-- DEC: the memory byte minus one; Z, N (41_arith_logic.md R208). -/
def opDec (m : Byte) (s : State) : Byte × State := (m - 1, s.setZN (m - 1))

/-- DEC ZP0, opcode 0xC6 (41_arith_logic.md R208). -/
def execDecZp0 (zp : Byte) (s : State) : Host.Outcome State Fault Refusal :=
  runModify 0xC6 (modeZp0 zp) opDec s

/-- DEC ABS, opcode 0xCE (41_arith_logic.md R208). -/
def execDecAbs (addr : Word) (s : State) : Host.Outcome State Fault Refusal :=
  runModify 0xCE (modeAbs addr) opDec s

/-- DEC ZPX, opcode 0xD6 (41_arith_logic.md R208). -/
def execDecZpx (zp : Byte) (s : State) : Host.Outcome State Fault Refusal :=
  runModify 0xD6 (modeZpx zp) opDec s

/-- DEC ABX, opcode 0xDE (41_arith_logic.md R208). -/
def execDecAbx (addr : Word) (s : State) : Host.Outcome State Fault Refusal :=
  runModify 0xDE (modeAbx addr) opDec s

/-- INX: X plus one; Z, N (41_arith_logic.md R209). -/
def opInx (s : State) : State := (s.setX (s.cpu.x + 1)).setZN (s.cpu.x + 1)

/-- INX IMP, opcode 0xE8 (41_arith_logic.md R209). -/
def execInx (s : State) : Host.Outcome State Fault Refusal :=
  runImplied 0xE8 opInx s

/-- INY: Y plus one; Z, N (41_arith_logic.md R210). -/
def opIny (s : State) : State := (s.setY (s.cpu.y + 1)).setZN (s.cpu.y + 1)

/-- INY IMP, opcode 0xC8 (41_arith_logic.md R210). -/
def execIny (s : State) : Host.Outcome State Fault Refusal :=
  runImplied 0xC8 opIny s

/-- DEX: X minus one; Z, N (41_arith_logic.md R211). -/
def opDex (s : State) : State := (s.setX (s.cpu.x - 1)).setZN (s.cpu.x - 1)

/-- DEX IMP, opcode 0xCA (41_arith_logic.md R211). -/
def execDex (s : State) : Host.Outcome State Fault Refusal :=
  runImplied 0xCA opDex s

/-- DEY: Y minus one; Z, N (41_arith_logic.md R212). -/
def opDey (s : State) : State := (s.setY (s.cpu.y - 1)).setZN (s.cpu.y - 1)

/-- DEY IMP, opcode 0x88 (41_arith_logic.md R212). -/
def execDey (s : State) : Host.Outcome State Fault Refusal :=
  runImplied 0x88 opDey s

end Sys2Proof.Machine
end

