-- ==== Sys2Proof/Machine/LoadStore.lean ====
section
/-! DEFINITION. Loads and stores (45_load_store_transfer.md R250 to R255). -/

namespace Sys2Proof.Machine

/-- LDA: A loaded; Z, N (45_load_store_transfer.md R250). -/
def opLda (m : Byte) (s : State) : State := (s.setA m).setZN m

/-- LDA IZX, opcode 0xA1 (45_load_store_transfer.md R250). -/
def execLdaIzx (zp : Byte) (s : State) : Host.Outcome State Fault Refusal :=
  runRead 0xA1 true (modeIzx zp) opLda s

/-- LDA ZP0, opcode 0xA5 (45_load_store_transfer.md R250). -/
def execLdaZp0 (zp : Byte) (s : State) : Host.Outcome State Fault Refusal :=
  runRead 0xA5 true (modeZp0 zp) opLda s

/-- LDA IMM, opcode 0xA9 (45_load_store_transfer.md R250). -/
def execLdaImm (imm : Byte) (s : State) : Host.Outcome State Fault Refusal :=
  runImm 0xA9 opLda imm s

/-- LDA ABS, opcode 0xAD (45_load_store_transfer.md R250). -/
def execLdaAbs (addr : Word) (s : State) : Host.Outcome State Fault Refusal :=
  runRead 0xAD true (modeAbs addr) opLda s

/-- LDA IZY, opcode 0xB1 (45_load_store_transfer.md R250). -/
def execLdaIzy (zp : Byte) (s : State) : Host.Outcome State Fault Refusal :=
  runRead 0xB1 true (modeIzy zp) opLda s

/-- LDA ZPX, opcode 0xB5 (45_load_store_transfer.md R250). -/
def execLdaZpx (zp : Byte) (s : State) : Host.Outcome State Fault Refusal :=
  runRead 0xB5 true (modeZpx zp) opLda s

/-- LDA ABY, opcode 0xB9 (45_load_store_transfer.md R250). -/
def execLdaAby (addr : Word) (s : State) : Host.Outcome State Fault Refusal :=
  runRead 0xB9 true (modeAby addr) opLda s

/-- LDA ABX, opcode 0xBD (45_load_store_transfer.md R250). -/
def execLdaAbx (addr : Word) (s : State) : Host.Outcome State Fault Refusal :=
  runRead 0xBD true (modeAbx addr) opLda s

/-- LDX: X loaded; Z, N (45_load_store_transfer.md R251). -/
def opLdx (m : Byte) (s : State) : State := (s.setX m).setZN m

/-- LDX IMM, opcode 0xA2 (45_load_store_transfer.md R251). -/
def execLdxImm (imm : Byte) (s : State) : Host.Outcome State Fault Refusal :=
  runImm 0xA2 opLdx imm s

/-- LDX ZP0, opcode 0xA6 (45_load_store_transfer.md R251). -/
def execLdxZp0 (zp : Byte) (s : State) : Host.Outcome State Fault Refusal :=
  runRead 0xA6 true (modeZp0 zp) opLdx s

/-- LDX ABS, opcode 0xAE (45_load_store_transfer.md R251). -/
def execLdxAbs (addr : Word) (s : State) : Host.Outcome State Fault Refusal :=
  runRead 0xAE true (modeAbs addr) opLdx s

/-- LDX ZPY, opcode 0xB6 (45_load_store_transfer.md R251). -/
def execLdxZpy (zp : Byte) (s : State) : Host.Outcome State Fault Refusal :=
  runRead 0xB6 true (modeZpy zp) opLdx s

/-- LDX ABY, opcode 0xBE (45_load_store_transfer.md R251). -/
def execLdxAby (addr : Word) (s : State) : Host.Outcome State Fault Refusal :=
  runRead 0xBE true (modeAby addr) opLdx s

/-- LDY: Y loaded; Z, N (45_load_store_transfer.md R252). -/
def opLdy (m : Byte) (s : State) : State := (s.setY m).setZN m

/-- LDY IMM, opcode 0xA0 (45_load_store_transfer.md R252). -/
def execLdyImm (imm : Byte) (s : State) : Host.Outcome State Fault Refusal :=
  runImm 0xA0 opLdy imm s

/-- LDY ZP0, opcode 0xA4 (45_load_store_transfer.md R252). -/
def execLdyZp0 (zp : Byte) (s : State) : Host.Outcome State Fault Refusal :=
  runRead 0xA4 true (modeZp0 zp) opLdy s

/-- LDY ABS, opcode 0xAC (45_load_store_transfer.md R252). -/
def execLdyAbs (addr : Word) (s : State) : Host.Outcome State Fault Refusal :=
  runRead 0xAC true (modeAbs addr) opLdy s

/-- LDY ZPX, opcode 0xB4 (45_load_store_transfer.md R252). -/
def execLdyZpx (zp : Byte) (s : State) : Host.Outcome State Fault Refusal :=
  runRead 0xB4 true (modeZpx zp) opLdy s

/-- LDY ABX, opcode 0xBC (45_load_store_transfer.md R252). -/
def execLdyAbx (addr : Word) (s : State) : Host.Outcome State Fault Refusal :=
  runRead 0xBC true (modeAbx addr) opLdy s

/-- STA IZX, opcode 0x81 (45_load_store_transfer.md R253). -/
def execStaIzx (zp : Byte) (s : State) : Host.Outcome State Fault Refusal :=
  runStore 0x81 (modeIzx zp) (fun u => u.cpu.a) s

/-- STA ZP0, opcode 0x85 (45_load_store_transfer.md R253). -/
def execStaZp0 (zp : Byte) (s : State) : Host.Outcome State Fault Refusal :=
  runStore 0x85 (modeZp0 zp) (fun u => u.cpu.a) s

/-- STA ABS, opcode 0x8D (45_load_store_transfer.md R253). -/
def execStaAbs (addr : Word) (s : State) : Host.Outcome State Fault Refusal :=
  runStore 0x8D (modeAbs addr) (fun u => u.cpu.a) s

/-- STA IZY, opcode 0x91 (45_load_store_transfer.md R253). -/
def execStaIzy (zp : Byte) (s : State) : Host.Outcome State Fault Refusal :=
  runStore 0x91 (modeIzy zp) (fun u => u.cpu.a) s

/-- STA ZPX, opcode 0x95 (45_load_store_transfer.md R253). -/
def execStaZpx (zp : Byte) (s : State) : Host.Outcome State Fault Refusal :=
  runStore 0x95 (modeZpx zp) (fun u => u.cpu.a) s

/-- STA ABY, opcode 0x99 (45_load_store_transfer.md R253). -/
def execStaAby (addr : Word) (s : State) : Host.Outcome State Fault Refusal :=
  runStore 0x99 (modeAby addr) (fun u => u.cpu.a) s

/-- STA ABX, opcode 0x9D (45_load_store_transfer.md R253). -/
def execStaAbx (addr : Word) (s : State) : Host.Outcome State Fault Refusal :=
  runStore 0x9D (modeAbx addr) (fun u => u.cpu.a) s

/-- STX ZP0, opcode 0x86 (45_load_store_transfer.md R254). -/
def execStxZp0 (zp : Byte) (s : State) : Host.Outcome State Fault Refusal :=
  runStore 0x86 (modeZp0 zp) (fun u => u.cpu.x) s

/-- STX ABS, opcode 0x8E (45_load_store_transfer.md R254). -/
def execStxAbs (addr : Word) (s : State) : Host.Outcome State Fault Refusal :=
  runStore 0x8E (modeAbs addr) (fun u => u.cpu.x) s

/-- STX ZPY, opcode 0x96 (45_load_store_transfer.md R254). -/
def execStxZpy (zp : Byte) (s : State) : Host.Outcome State Fault Refusal :=
  runStore 0x96 (modeZpy zp) (fun u => u.cpu.x) s

/-- STY ZP0, opcode 0x84 (45_load_store_transfer.md R255). -/
def execStyZp0 (zp : Byte) (s : State) : Host.Outcome State Fault Refusal :=
  runStore 0x84 (modeZp0 zp) (fun u => u.cpu.y) s

/-- STY ABS, opcode 0x8C (45_load_store_transfer.md R255). -/
def execStyAbs (addr : Word) (s : State) : Host.Outcome State Fault Refusal :=
  runStore 0x8C (modeAbs addr) (fun u => u.cpu.y) s

/-- STY ZPX, opcode 0x94 (45_load_store_transfer.md R255). -/
def execStyZpx (zp : Byte) (s : State) : Host.Outcome State Fault Refusal :=
  runStore 0x94 (modeZpx zp) (fun u => u.cpu.y) s

end Sys2Proof.Machine
end

