-- ==== Sys2Proof/Machine/Logic.lean ====
section
/-! DEFINITION. Logic instructions (41_arith_logic.md R203 to R206). -/

namespace Sys2Proof.Machine

/-- AND: `A <- A & M`; Z, N (41_arith_logic.md R203). -/
def opAnd (m : Byte) (s : State) : State :=
  let r := s.cpu.a &&& m
  (s.setA r).setZN r

/-- AND IZX, opcode 0x21 (41_arith_logic.md R203). -/
def execAndIzx (zp : Byte) (s : State) : Host.Outcome State Fault Refusal :=
  runRead 0x21 true (modeIzx zp) opAnd s

/-- AND ZP0, opcode 0x25 (41_arith_logic.md R203). -/
def execAndZp0 (zp : Byte) (s : State) : Host.Outcome State Fault Refusal :=
  runRead 0x25 true (modeZp0 zp) opAnd s

/-- AND IMM, opcode 0x29 (41_arith_logic.md R203). -/
def execAndImm (imm : Byte) (s : State) : Host.Outcome State Fault Refusal :=
  runImm 0x29 opAnd imm s

/-- AND ABS, opcode 0x2D (41_arith_logic.md R203). -/
def execAndAbs (addr : Word) (s : State) : Host.Outcome State Fault Refusal :=
  runRead 0x2D true (modeAbs addr) opAnd s

/-- AND IZY, opcode 0x31 (41_arith_logic.md R203). -/
def execAndIzy (zp : Byte) (s : State) : Host.Outcome State Fault Refusal :=
  runRead 0x31 true (modeIzy zp) opAnd s

/-- AND ZPX, opcode 0x35 (41_arith_logic.md R203). -/
def execAndZpx (zp : Byte) (s : State) : Host.Outcome State Fault Refusal :=
  runRead 0x35 true (modeZpx zp) opAnd s

/-- AND ABY, opcode 0x39 (41_arith_logic.md R203). -/
def execAndAby (addr : Word) (s : State) : Host.Outcome State Fault Refusal :=
  runRead 0x39 true (modeAby addr) opAnd s

/-- AND ABX, opcode 0x3D (41_arith_logic.md R203). -/
def execAndAbx (addr : Word) (s : State) : Host.Outcome State Fault Refusal :=
  runRead 0x3D true (modeAbx addr) opAnd s

/-- ORA: `A <- A | M`; Z, N (41_arith_logic.md R204). -/
def opOra (m : Byte) (s : State) : State :=
  let r := s.cpu.a ||| m
  (s.setA r).setZN r

/-- ORA IZX, opcode 0x01 (41_arith_logic.md R204). -/
def execOraIzx (zp : Byte) (s : State) : Host.Outcome State Fault Refusal :=
  runRead 0x01 true (modeIzx zp) opOra s

/-- ORA ZP0, opcode 0x05 (41_arith_logic.md R204). -/
def execOraZp0 (zp : Byte) (s : State) : Host.Outcome State Fault Refusal :=
  runRead 0x05 true (modeZp0 zp) opOra s

/-- ORA IMM, opcode 0x09 (41_arith_logic.md R204). -/
def execOraImm (imm : Byte) (s : State) : Host.Outcome State Fault Refusal :=
  runImm 0x09 opOra imm s

/-- ORA ABS, opcode 0x0D (41_arith_logic.md R204). -/
def execOraAbs (addr : Word) (s : State) : Host.Outcome State Fault Refusal :=
  runRead 0x0D true (modeAbs addr) opOra s

/-- ORA IZY, opcode 0x11 (41_arith_logic.md R204). -/
def execOraIzy (zp : Byte) (s : State) : Host.Outcome State Fault Refusal :=
  runRead 0x11 true (modeIzy zp) opOra s

/-- ORA ZPX, opcode 0x15 (41_arith_logic.md R204). -/
def execOraZpx (zp : Byte) (s : State) : Host.Outcome State Fault Refusal :=
  runRead 0x15 true (modeZpx zp) opOra s

/-- ORA ABY, opcode 0x19 (41_arith_logic.md R204). -/
def execOraAby (addr : Word) (s : State) : Host.Outcome State Fault Refusal :=
  runRead 0x19 true (modeAby addr) opOra s

/-- ORA ABX, opcode 0x1D (41_arith_logic.md R204). -/
def execOraAbx (addr : Word) (s : State) : Host.Outcome State Fault Refusal :=
  runRead 0x1D true (modeAbx addr) opOra s

/-- EOR: `A <- A ^ M`; Z, N (41_arith_logic.md R205). -/
def opEor (m : Byte) (s : State) : State :=
  let r := s.cpu.a ^^^ m
  (s.setA r).setZN r

/-- EOR IZX, opcode 0x41 (41_arith_logic.md R205). -/
def execEorIzx (zp : Byte) (s : State) : Host.Outcome State Fault Refusal :=
  runRead 0x41 true (modeIzx zp) opEor s

/-- EOR ZP0, opcode 0x45 (41_arith_logic.md R205). -/
def execEorZp0 (zp : Byte) (s : State) : Host.Outcome State Fault Refusal :=
  runRead 0x45 true (modeZp0 zp) opEor s

/-- EOR IMM, opcode 0x49 (41_arith_logic.md R205). -/
def execEorImm (imm : Byte) (s : State) : Host.Outcome State Fault Refusal :=
  runImm 0x49 opEor imm s

/-- EOR ABS, opcode 0x4D (41_arith_logic.md R205). -/
def execEorAbs (addr : Word) (s : State) : Host.Outcome State Fault Refusal :=
  runRead 0x4D true (modeAbs addr) opEor s

/-- EOR IZY, opcode 0x51 (41_arith_logic.md R205). -/
def execEorIzy (zp : Byte) (s : State) : Host.Outcome State Fault Refusal :=
  runRead 0x51 true (modeIzy zp) opEor s

/-- EOR ZPX, opcode 0x55 (41_arith_logic.md R205). -/
def execEorZpx (zp : Byte) (s : State) : Host.Outcome State Fault Refusal :=
  runRead 0x55 true (modeZpx zp) opEor s

/-- EOR ABY, opcode 0x59 (41_arith_logic.md R205). -/
def execEorAby (addr : Word) (s : State) : Host.Outcome State Fault Refusal :=
  runRead 0x59 true (modeAby addr) opEor s

/-- EOR ABX, opcode 0x5D (41_arith_logic.md R205). -/
def execEorAbx (addr : Word) (s : State) : Host.Outcome State Fault Refusal :=
  runRead 0x5D true (modeAbx addr) opEor s

/-- BIT: Z of `A & M`, N and V from bits 7 and 6 of M (41_arith_logic.md R206). -/
def opBit (m : Byte) (s : State) : State :=
  ((s.setFlag .zero (s.cpu.a &&& m == 0)).setFlag .negative (m.getLsbD 7)).setFlag .overflow (m.getLsbD 6)

/-- BIT ZP0, opcode 0x24 (41_arith_logic.md R206). -/
def execBitZp0 (zp : Byte) (s : State) : Host.Outcome State Fault Refusal :=
  runRead 0x24 false (modeZp0 zp) opBit s

/-- BIT ABS, opcode 0x2C (41_arith_logic.md R206). -/
def execBitAbs (addr : Word) (s : State) : Host.Outcome State Fault Refusal :=
  runRead 0x2C false (modeAbs addr) opBit s

end Sys2Proof.Machine
end

