-- ==== Sys2Proof/Machine/Shift.lean ====
section
/-! DEFINITION. Shift and rotate instructions, each read-modify-write (43_shift_rotate.md R230 to R233). -/

namespace Sys2Proof.Machine

/-- ASL: shifted left, C the old bit 7; Z, N (43_shift_rotate.md R230). -/
def opAsl (m : Byte) (s : State) : Byte × State :=
  let r := m <<< 1
  (r, (s.setFlag .carry (m.getLsbD 7)).setZN r)

/-- ASL ZP0, opcode 0x06 (43_shift_rotate.md R230). -/
def execAslZp0 (zp : Byte) (s : State) : Host.Outcome State Fault Refusal :=
  runModify 0x06 (modeZp0 zp) opAsl s

/-- ASL IMP, opcode 0x0A (43_shift_rotate.md R230). -/
def execAslAcc (s : State) : Host.Outcome State Fault Refusal :=
  runModifyA 0x0A opAsl s

/-- ASL ABS, opcode 0x0E (43_shift_rotate.md R230). -/
def execAslAbs (addr : Word) (s : State) : Host.Outcome State Fault Refusal :=
  runModify 0x0E (modeAbs addr) opAsl s

/-- ASL ZPX, opcode 0x16 (43_shift_rotate.md R230). -/
def execAslZpx (zp : Byte) (s : State) : Host.Outcome State Fault Refusal :=
  runModify 0x16 (modeZpx zp) opAsl s

/-- ASL ABX, opcode 0x1E (43_shift_rotate.md R230). -/
def execAslAbx (addr : Word) (s : State) : Host.Outcome State Fault Refusal :=
  runModify 0x1E (modeAbx addr) opAsl s

/-- LSR: shifted right, C the old bit 0; Z, N (43_shift_rotate.md R231). -/
def opLsr (m : Byte) (s : State) : Byte × State :=
  let r := m >>> 1
  (r, (s.setFlag .carry (m.getLsbD 0)).setZN r)

/-- LSR ZP0, opcode 0x46 (43_shift_rotate.md R231). -/
def execLsrZp0 (zp : Byte) (s : State) : Host.Outcome State Fault Refusal :=
  runModify 0x46 (modeZp0 zp) opLsr s

/-- LSR IMP, opcode 0x4A (43_shift_rotate.md R231). -/
def execLsrAcc (s : State) : Host.Outcome State Fault Refusal :=
  runModifyA 0x4A opLsr s

/-- LSR ABS, opcode 0x4E (43_shift_rotate.md R231). -/
def execLsrAbs (addr : Word) (s : State) : Host.Outcome State Fault Refusal :=
  runModify 0x4E (modeAbs addr) opLsr s

/-- LSR ZPX, opcode 0x56 (43_shift_rotate.md R231). -/
def execLsrZpx (zp : Byte) (s : State) : Host.Outcome State Fault Refusal :=
  runModify 0x56 (modeZpx zp) opLsr s

/-- LSR ABX, opcode 0x5E (43_shift_rotate.md R231). -/
def execLsrAbx (addr : Word) (s : State) : Host.Outcome State Fault Refusal :=
  runModify 0x5E (modeAbx addr) opLsr s

/-- ROL: rotated left through C; C the old bit 7; Z, N (43_shift_rotate.md R232). -/
def opRol (m : Byte) (s : State) : Byte × State :=
  let r := (m <<< 1) ||| (if s.flag .carry then 0x01 else 0x00)
  (r, (s.setFlag .carry (m.getLsbD 7)).setZN r)

/-- ROL ZP0, opcode 0x26 (43_shift_rotate.md R232). -/
def execRolZp0 (zp : Byte) (s : State) : Host.Outcome State Fault Refusal :=
  runModify 0x26 (modeZp0 zp) opRol s

/-- ROL IMP, opcode 0x2A (43_shift_rotate.md R232). -/
def execRolAcc (s : State) : Host.Outcome State Fault Refusal :=
  runModifyA 0x2A opRol s

/-- ROL ABS, opcode 0x2E (43_shift_rotate.md R232). -/
def execRolAbs (addr : Word) (s : State) : Host.Outcome State Fault Refusal :=
  runModify 0x2E (modeAbs addr) opRol s

/-- ROL ZPX, opcode 0x36 (43_shift_rotate.md R232). -/
def execRolZpx (zp : Byte) (s : State) : Host.Outcome State Fault Refusal :=
  runModify 0x36 (modeZpx zp) opRol s

/-- ROL ABX, opcode 0x3E (43_shift_rotate.md R232). -/
def execRolAbx (addr : Word) (s : State) : Host.Outcome State Fault Refusal :=
  runModify 0x3E (modeAbx addr) opRol s

/-- ROR: rotated right through C; C the old bit 0; Z, N (43_shift_rotate.md R233). -/
def opRor (m : Byte) (s : State) : Byte × State :=
  let r := (if s.flag .carry then 0x80 else 0x00) ||| (m >>> 1)
  (r, (s.setFlag .carry (m.getLsbD 0)).setZN r)

/-- ROR ZP0, opcode 0x66 (43_shift_rotate.md R233). -/
def execRorZp0 (zp : Byte) (s : State) : Host.Outcome State Fault Refusal :=
  runModify 0x66 (modeZp0 zp) opRor s

/-- ROR IMP, opcode 0x6A (43_shift_rotate.md R233). -/
def execRorAcc (s : State) : Host.Outcome State Fault Refusal :=
  runModifyA 0x6A opRor s

/-- ROR ABS, opcode 0x6E (43_shift_rotate.md R233). -/
def execRorAbs (addr : Word) (s : State) : Host.Outcome State Fault Refusal :=
  runModify 0x6E (modeAbs addr) opRor s

/-- ROR ZPX, opcode 0x76 (43_shift_rotate.md R233). -/
def execRorZpx (zp : Byte) (s : State) : Host.Outcome State Fault Refusal :=
  runModify 0x76 (modeZpx zp) opRor s

/-- ROR ABX, opcode 0x7E (43_shift_rotate.md R233). -/
def execRorAbx (addr : Word) (s : State) : Host.Outcome State Fault Refusal :=
  runModify 0x7E (modeAbx addr) opRor s

end Sys2Proof.Machine
end

