-- ==== Sys2Proof/Machine/Stack.lean ====
section
/-! DEFINITION. Stack instructions (44_stack.md R241 to R244). -/

namespace Sys2Proof.Machine

/-- PHA: A pushed (44_stack.md R241). -/
def opPha (s : State) : State := push s.cpu.a s

/-- PHA IMP, opcode 0x48 (44_stack.md R241). -/
def execPha (s : State) : Host.Outcome State Fault Refusal :=
  runImplied 0x48 opPha s

/-- PHP: P pushed with Break and Unused set; the register unchanged (44_stack.md R242). -/
def opPhp (s : State) : State := push (statusForBreak s.cpu.p) s

/-- PHP IMP, opcode 0x08 (44_stack.md R242). -/
def execPhp (s : State) : Host.Outcome State Fault Refusal :=
  runImplied 0x08 opPhp s

/-- PLA: A pulled; Z, N (44_stack.md R243). -/
def opPla (s : State) : State :=
  let r := pull s
  (r.2.setA r.1).setZN r.1

/-- PLA IMP, opcode 0x68 (44_stack.md R243). -/
def execPla (s : State) : Host.Outcome State Fault Refusal :=
  runImplied 0x68 opPla s

/-- PLP: P pulled, Break cleared, Unused set (44_stack.md R244). -/
def opPlp (s : State) : State :=
  let r := pull s
  r.2.setP (statusPulled r.1)

/-- PLP IMP, opcode 0x28 (44_stack.md R244). -/
def execPlp (s : State) : Host.Outcome State Fault Refusal :=
  runImplied 0x28 opPlp s

end Sys2Proof.Machine
end

