-- ==== Sys2Proof/Machine/System.lean ====
section
/-! DEFINITION. Flag instructions, NOP, BRK and RTI (47_flags_system.md R290 to R299). -/

namespace Sys2Proof.Machine

/-- CLC (47_flags_system.md R290). -/
def opClc (s : State) : State := s.setFlag .carry false

/-- CLC IMP, opcode 0x18 (47_flags_system.md R290). -/
def execClc (s : State) : Host.Outcome State Fault Refusal :=
  runImplied 0x18 opClc s

/-- CLD (47_flags_system.md R291). -/
def opCld (s : State) : State := s.setFlag .decimal false

/-- CLD IMP, opcode 0xD8 (47_flags_system.md R291). -/
def execCld (s : State) : Host.Outcome State Fault Refusal :=
  runImplied 0xD8 opCld s

/-- CLI (47_flags_system.md R292). -/
def opCli (s : State) : State := s.setFlag .interruptDisable false

/-- CLI IMP, opcode 0x58 (47_flags_system.md R292). -/
def execCli (s : State) : Host.Outcome State Fault Refusal :=
  runImplied 0x58 opCli s

/-- CLV (47_flags_system.md R293). -/
def opClv (s : State) : State := s.setFlag .overflow false

/-- CLV IMP, opcode 0xB8 (47_flags_system.md R293). -/
def execClv (s : State) : Host.Outcome State Fault Refusal :=
  runImplied 0xB8 opClv s

/-- SEC (47_flags_system.md R294). -/
def opSec (s : State) : State := s.setFlag .carry true

/-- SEC IMP, opcode 0x38 (47_flags_system.md R294). -/
def execSec (s : State) : Host.Outcome State Fault Refusal :=
  runImplied 0x38 opSec s

/-- SED (47_flags_system.md R295). -/
def opSed (s : State) : State := s.setFlag .decimal true

/-- SED IMP, opcode 0xF8 (47_flags_system.md R295). -/
def execSed (s : State) : Host.Outcome State Fault Refusal :=
  runImplied 0xF8 opSed s

/-- SEI (47_flags_system.md R296). -/
def opSei (s : State) : State := s.setFlag .interruptDisable true

/-- SEI IMP, opcode 0x78 (47_flags_system.md R296). -/
def execSei (s : State) : Host.Outcome State Fault Refusal :=
  runImplied 0x78 opSei s

/-- NOP: nothing beyond the instruction's frame (47_flags_system.md R297). -/
def opNop (s : State) : State := s

/-- NOP IMP, opcode 0xEA (47_flags_system.md R297). -/
def execNop (s : State) : Host.Outcome State Fault Refusal :=
  runImplied 0xEA opNop s

/-- BRK: the padding byte skipped, then the exception entry with the status byte of BRK and the IRQ/BRK vector; the pushed I
is the one before BRK (47_flags_system.md R298). -/
def opBrk (s : State) : State :=
  let s₁ := s.setPc (s.cpu.pc + 1)
  takeException s₁.cpu.pc (statusForBreak s₁.cpu.p) irqVector s₁

/-- BRK IMP, opcode 0x00 (47_flags_system.md R298). -/
def execBrk (s : State) : Host.Outcome State Fault Refusal :=
  runImplied 0x00 opBrk s

/-- RTI: the return from an exception (47_flags_system.md R299). -/
def opRti (s : State) : State := returnFromException s

/-- RTI IMP, opcode 0x40 (47_flags_system.md R299). -/
def execRti (s : State) : Host.Outcome State Fault Refusal :=
  runImplied 0x40 opRti s

end Sys2Proof.Machine
end

