-- ==== Sys2Proof/Machine/Transfer.lean ====
section
/-! DEFINITION. Register transfers (45_load_store_transfer.md R256 to R261). -/

namespace Sys2Proof.Machine

/-- TAX: X takes A; Z, N (45_load_store_transfer.md R256). -/
def opTax (s : State) : State := (s.setX s.cpu.a).setZN s.cpu.a

/-- TAX IMP, opcode 0xAA (45_load_store_transfer.md R256). -/
def execTax (s : State) : Host.Outcome State Fault Refusal :=
  runImplied 0xAA opTax s

/-- TAY: Y takes A; Z, N (45_load_store_transfer.md R257). -/
def opTay (s : State) : State := (s.setY s.cpu.a).setZN s.cpu.a

/-- TAY IMP, opcode 0xA8 (45_load_store_transfer.md R257). -/
def execTay (s : State) : Host.Outcome State Fault Refusal :=
  runImplied 0xA8 opTay s

/-- TXA: A takes X; Z, N (45_load_store_transfer.md R258). -/
def opTxa (s : State) : State := (s.setA s.cpu.x).setZN s.cpu.x

/-- TXA IMP, opcode 0x8A (45_load_store_transfer.md R258). -/
def execTxa (s : State) : Host.Outcome State Fault Refusal :=
  runImplied 0x8A opTxa s

/-- TYA: A takes Y; Z, N (45_load_store_transfer.md R259). -/
def opTya (s : State) : State := (s.setA s.cpu.y).setZN s.cpu.y

/-- TYA IMP, opcode 0x98 (45_load_store_transfer.md R259). -/
def execTya (s : State) : Host.Outcome State Fault Refusal :=
  runImplied 0x98 opTya s

/-- TSX: X takes SP; Z, N (45_load_store_transfer.md R260). -/
def opTsx (s : State) : State := (s.setX s.cpu.sp).setZN s.cpu.sp

/-- TSX IMP, opcode 0xBA (45_load_store_transfer.md R260). -/
def execTsx (s : State) : Host.Outcome State Fault Refusal :=
  runImplied 0xBA opTsx s

/-- TXS: SP takes X; no flag (45_load_store_transfer.md R261). -/
def opTxs (s : State) : State := s.setSp s.cpu.x

/-- TXS IMP, opcode 0x9A (45_load_store_transfer.md R261). -/
def execTxs (s : State) : Host.Outcome State Fault Refusal :=
  runImplied 0x9A opTxs s

end Sys2Proof.Machine
end

