-- ==== Sys2Proof/Machine/Dispatch.lean ====
section
/-! DEFINITION. The meaning of every instruction, one arm per constructor. -/

namespace Sys2Proof.Machine

def exec (i : Instr) (s : State) : Host.Outcome State Fault Refusal :=
  match i with
  | .brk => Sys2Proof.Machine.execBrk s
  | .oraIzx zp => Sys2Proof.Machine.execOraIzx zp s
  | .oraZp0 zp => Sys2Proof.Machine.execOraZp0 zp s
  | .aslZp0 zp => Sys2Proof.Machine.execAslZp0 zp s
  | .php => Sys2Proof.Machine.execPhp s
  | .oraImm imm => Sys2Proof.Machine.execOraImm imm s
  | .aslAcc => Sys2Proof.Machine.execAslAcc s
  | .oraAbs addr => Sys2Proof.Machine.execOraAbs addr s
  | .aslAbs addr => Sys2Proof.Machine.execAslAbs addr s
  | .bpl rel => Sys2Proof.Machine.execBpl rel s
  | .oraIzy zp => Sys2Proof.Machine.execOraIzy zp s
  | .oraZpx zp => Sys2Proof.Machine.execOraZpx zp s
  | .aslZpx zp => Sys2Proof.Machine.execAslZpx zp s
  | .clc => Sys2Proof.Machine.execClc s
  | .oraAby addr => Sys2Proof.Machine.execOraAby addr s
  | .oraAbx addr => Sys2Proof.Machine.execOraAbx addr s
  | .aslAbx addr => Sys2Proof.Machine.execAslAbx addr s
  | .jsr addr => Sys2Proof.Machine.execJsr addr s
  | .andIzx zp => Sys2Proof.Machine.execAndIzx zp s
  | .bitZp0 zp => Sys2Proof.Machine.execBitZp0 zp s
  | .andZp0 zp => Sys2Proof.Machine.execAndZp0 zp s
  | .rolZp0 zp => Sys2Proof.Machine.execRolZp0 zp s
  | .plp => Sys2Proof.Machine.execPlp s
  | .andImm imm => Sys2Proof.Machine.execAndImm imm s
  | .rolAcc => Sys2Proof.Machine.execRolAcc s
  | .bitAbs addr => Sys2Proof.Machine.execBitAbs addr s
  | .andAbs addr => Sys2Proof.Machine.execAndAbs addr s
  | .rolAbs addr => Sys2Proof.Machine.execRolAbs addr s
  | .bmi rel => Sys2Proof.Machine.execBmi rel s
  | .andIzy zp => Sys2Proof.Machine.execAndIzy zp s
  | .andZpx zp => Sys2Proof.Machine.execAndZpx zp s
  | .rolZpx zp => Sys2Proof.Machine.execRolZpx zp s
  | .sec => Sys2Proof.Machine.execSec s
  | .andAby addr => Sys2Proof.Machine.execAndAby addr s
  | .andAbx addr => Sys2Proof.Machine.execAndAbx addr s
  | .rolAbx addr => Sys2Proof.Machine.execRolAbx addr s
  | .rti => Sys2Proof.Machine.execRti s
  | .eorIzx zp => Sys2Proof.Machine.execEorIzx zp s
  | .eorZp0 zp => Sys2Proof.Machine.execEorZp0 zp s
  | .lsrZp0 zp => Sys2Proof.Machine.execLsrZp0 zp s
  | .pha => Sys2Proof.Machine.execPha s
  | .eorImm imm => Sys2Proof.Machine.execEorImm imm s
  | .lsrAcc => Sys2Proof.Machine.execLsrAcc s
  | .jmpAbs addr => Sys2Proof.Machine.execJmpAbs addr s
  | .eorAbs addr => Sys2Proof.Machine.execEorAbs addr s
  | .lsrAbs addr => Sys2Proof.Machine.execLsrAbs addr s
  | .bvc rel => Sys2Proof.Machine.execBvc rel s
  | .eorIzy zp => Sys2Proof.Machine.execEorIzy zp s
  | .eorZpx zp => Sys2Proof.Machine.execEorZpx zp s
  | .lsrZpx zp => Sys2Proof.Machine.execLsrZpx zp s
  | .cli => Sys2Proof.Machine.execCli s
  | .eorAby addr => Sys2Proof.Machine.execEorAby addr s
  | .eorAbx addr => Sys2Proof.Machine.execEorAbx addr s
  | .lsrAbx addr => Sys2Proof.Machine.execLsrAbx addr s
  | .rts => Sys2Proof.Machine.execRts s
  | .adcIzx zp => Sys2Proof.Machine.execAdcIzx zp s
  | .adcZp0 zp => Sys2Proof.Machine.execAdcZp0 zp s
  | .rorZp0 zp => Sys2Proof.Machine.execRorZp0 zp s
  | .pla => Sys2Proof.Machine.execPla s
  | .adcImm imm => Sys2Proof.Machine.execAdcImm imm s
  | .rorAcc => Sys2Proof.Machine.execRorAcc s
  | .jmpInd ptr => Sys2Proof.Machine.execJmpInd ptr s
  | .adcAbs addr => Sys2Proof.Machine.execAdcAbs addr s
  | .rorAbs addr => Sys2Proof.Machine.execRorAbs addr s
  | .bvs rel => Sys2Proof.Machine.execBvs rel s
  | .adcIzy zp => Sys2Proof.Machine.execAdcIzy zp s
  | .adcZpx zp => Sys2Proof.Machine.execAdcZpx zp s
  | .rorZpx zp => Sys2Proof.Machine.execRorZpx zp s
  | .sei => Sys2Proof.Machine.execSei s
  | .adcAby addr => Sys2Proof.Machine.execAdcAby addr s
  | .adcAbx addr => Sys2Proof.Machine.execAdcAbx addr s
  | .rorAbx addr => Sys2Proof.Machine.execRorAbx addr s
  | .staIzx zp => Sys2Proof.Machine.execStaIzx zp s
  | .styZp0 zp => Sys2Proof.Machine.execStyZp0 zp s
  | .staZp0 zp => Sys2Proof.Machine.execStaZp0 zp s
  | .stxZp0 zp => Sys2Proof.Machine.execStxZp0 zp s
  | .dey => Sys2Proof.Machine.execDey s
  | .txa => Sys2Proof.Machine.execTxa s
  | .styAbs addr => Sys2Proof.Machine.execStyAbs addr s
  | .staAbs addr => Sys2Proof.Machine.execStaAbs addr s
  | .stxAbs addr => Sys2Proof.Machine.execStxAbs addr s
  | .bcc rel => Sys2Proof.Machine.execBcc rel s
  | .staIzy zp => Sys2Proof.Machine.execStaIzy zp s
  | .styZpx zp => Sys2Proof.Machine.execStyZpx zp s
  | .staZpx zp => Sys2Proof.Machine.execStaZpx zp s
  | .stxZpy zp => Sys2Proof.Machine.execStxZpy zp s
  | .tya => Sys2Proof.Machine.execTya s
  | .staAby addr => Sys2Proof.Machine.execStaAby addr s
  | .txs => Sys2Proof.Machine.execTxs s
  | .staAbx addr => Sys2Proof.Machine.execStaAbx addr s
  | .ldyImm imm => Sys2Proof.Machine.execLdyImm imm s
  | .ldaIzx zp => Sys2Proof.Machine.execLdaIzx zp s
  | .ldxImm imm => Sys2Proof.Machine.execLdxImm imm s
  | .ldyZp0 zp => Sys2Proof.Machine.execLdyZp0 zp s
  | .ldaZp0 zp => Sys2Proof.Machine.execLdaZp0 zp s
  | .ldxZp0 zp => Sys2Proof.Machine.execLdxZp0 zp s
  | .tay => Sys2Proof.Machine.execTay s
  | .ldaImm imm => Sys2Proof.Machine.execLdaImm imm s
  | .tax => Sys2Proof.Machine.execTax s
  | .ldyAbs addr => Sys2Proof.Machine.execLdyAbs addr s
  | .ldaAbs addr => Sys2Proof.Machine.execLdaAbs addr s
  | .ldxAbs addr => Sys2Proof.Machine.execLdxAbs addr s
  | .bcs rel => Sys2Proof.Machine.execBcs rel s
  | .ldaIzy zp => Sys2Proof.Machine.execLdaIzy zp s
  | .ldyZpx zp => Sys2Proof.Machine.execLdyZpx zp s
  | .ldaZpx zp => Sys2Proof.Machine.execLdaZpx zp s
  | .ldxZpy zp => Sys2Proof.Machine.execLdxZpy zp s
  | .clv => Sys2Proof.Machine.execClv s
  | .ldaAby addr => Sys2Proof.Machine.execLdaAby addr s
  | .tsx => Sys2Proof.Machine.execTsx s
  | .ldyAbx addr => Sys2Proof.Machine.execLdyAbx addr s
  | .ldaAbx addr => Sys2Proof.Machine.execLdaAbx addr s
  | .ldxAby addr => Sys2Proof.Machine.execLdxAby addr s
  | .cpyImm imm => Sys2Proof.Machine.execCpyImm imm s
  | .cmpIzx zp => Sys2Proof.Machine.execCmpIzx zp s
  | .cpyZp0 zp => Sys2Proof.Machine.execCpyZp0 zp s
  | .cmpZp0 zp => Sys2Proof.Machine.execCmpZp0 zp s
  | .decZp0 zp => Sys2Proof.Machine.execDecZp0 zp s
  | .iny => Sys2Proof.Machine.execIny s
  | .cmpImm imm => Sys2Proof.Machine.execCmpImm imm s
  | .dex => Sys2Proof.Machine.execDex s
  | .cpyAbs addr => Sys2Proof.Machine.execCpyAbs addr s
  | .cmpAbs addr => Sys2Proof.Machine.execCmpAbs addr s
  | .decAbs addr => Sys2Proof.Machine.execDecAbs addr s
  | .bne rel => Sys2Proof.Machine.execBne rel s
  | .cmpIzy zp => Sys2Proof.Machine.execCmpIzy zp s
  | .cmpZpx zp => Sys2Proof.Machine.execCmpZpx zp s
  | .decZpx zp => Sys2Proof.Machine.execDecZpx zp s
  | .cld => Sys2Proof.Machine.execCld s
  | .cmpAby addr => Sys2Proof.Machine.execCmpAby addr s
  | .cmpAbx addr => Sys2Proof.Machine.execCmpAbx addr s
  | .decAbx addr => Sys2Proof.Machine.execDecAbx addr s
  | .cpxImm imm => Sys2Proof.Machine.execCpxImm imm s
  | .sbcIzx zp => Sys2Proof.Machine.execSbcIzx zp s
  | .cpxZp0 zp => Sys2Proof.Machine.execCpxZp0 zp s
  | .sbcZp0 zp => Sys2Proof.Machine.execSbcZp0 zp s
  | .incZp0 zp => Sys2Proof.Machine.execIncZp0 zp s
  | .inx => Sys2Proof.Machine.execInx s
  | .sbcImm imm => Sys2Proof.Machine.execSbcImm imm s
  | .nop => Sys2Proof.Machine.execNop s
  | .cpxAbs addr => Sys2Proof.Machine.execCpxAbs addr s
  | .sbcAbs addr => Sys2Proof.Machine.execSbcAbs addr s
  | .incAbs addr => Sys2Proof.Machine.execIncAbs addr s
  | .beq rel => Sys2Proof.Machine.execBeq rel s
  | .sbcIzy zp => Sys2Proof.Machine.execSbcIzy zp s
  | .sbcZpx zp => Sys2Proof.Machine.execSbcZpx zp s
  | .incZpx zp => Sys2Proof.Machine.execIncZpx zp s
  | .sed => Sys2Proof.Machine.execSed s
  | .sbcAby addr => Sys2Proof.Machine.execSbcAby addr s
  | .sbcAbx addr => Sys2Proof.Machine.execSbcAbx addr s
  | .incAbx addr => Sys2Proof.Machine.execIncAbx addr s

end Sys2Proof.Machine
end

