-- ==== Sys2Proof/Machine/Cpu.lean ====
section
/-! DEFINITION. The CPU's cycle engine: fetch, decode and execute, and one CPU clock (40_cycle_and_addressing.md R170 to
R175). -/

namespace Sys2Proof.Machine

/-- `IRQ_LINE(tick)` (61_system_clock.md R344). -/
def irqAsserted : IrqLine → Nat → Bool
  | .listed idle flips, tick => idle != flips.contains tick
  | .free, tick => Config.irqLine tick

/-- One byte of the instruction stream: a bus read at the PC, and the PC one further (10_state.md R35, 20_memory.md R133). -/
def fetchByte (s : State) : Byte × State :=
  let r := memRead s.cpu.pc s
  (r.1, r.2.setPc (s.cpu.pc + 1))

/-- The operand bytes a form needs, read in order, low byte first; BRK's padding byte is not read (40_cycle_and_addressing.md
R172, R183, 47_flags_system.md R298). -/
def readOperands (f : Form) (s : State) : Instr × State :=
  match f with
  | .implied i => (i, s)
  | .padded i => (i, s)
  | .byte g =>
    let b := fetchByte s
    (g b.1, b.2)
  | .word g =>
    let lo := fetchByte s
    let hi := fetchByte lo.2
    (g (wordOfBytes lo.1 hi.1), hi.2)

/-- The machine in the fault state: the reason recorded, nothing else changed (60_exceptions.md R310). -/
def raiseFault (f : Fault) (s : State) : State := { s with fault := some f }

/-- `ExecuteInstruction()` (40_cycle_and_addressing.md R171). An opcode without a row raises the fault before any operand byte
is read, the PC past the opcode byte (30_encoding.md R154). -/
def executeInstruction (s : State) : Host.Outcome State Fault Refusal :=
  let op := fetchByte (s.setP s.cpu.p)
  match lookupOpcode op.1 with
  | none => .next (raiseFault (.illegalOpcode op.1 s.cpu.pc) op.2)
  | some row =>
    let r := readOperands row.form op.2
    exec r.1 r.2

/-- `cycles <- cycles - 1` (40_cycle_and_addressing.md R170). -/
def countDown (s : State) : State := s.setCycles (s.cpu.cycles - 1)

/-- What follows the work of an Idle clock: the count down, unless the work raised a fault (40_cycle_and_addressing.md R170,
61_system_clock.md R341). -/
def afterIdleWork (t : State) : State := if t.fault.isSome then t else countDown t

/-- `CpuClock()` (40_cycle_and_addressing.md R170). -/
def cpuClock (s : State) : Host.Outcome State Fault Refusal :=
  if s.fault.isSome then .next s
  else if s.cpu.cycles = 0 then
    if irqAsserted s.params.irqLine s.tick && !s.flag .interruptDisable then .next (countDown (irqEntry s))
    else
      match executeInstruction s with
      | .next t => .next (afterIdleWork t)
      | .fault r => .fault r
      | .refused r => .refused r
  else .next (countDown s)

end Sys2Proof.Machine
end

