-- ==== Sys2Proof/Machine/PpuPipeline.lean ====
section
/-! DEFINITION. The PPU's scanline pipeline: one clock (62_ppu.md R371 to R396). It reads the cartridge and changes only
the PPU. -/

namespace Sys2Proof.Machine

/-- `rendering` (62_ppu.md R395). -/
def rendering (p : Ppu) : Bool := p.mask.getLsbD 3 || p.mask.getLsbD 4

/-- A function applied to the first `n` entries of a list. -/
def mapFirst {α : Type} (f : α → α) : Nat → List α → List α
  | 0, l => l
  | _ + 1, [] => []
  | n + 1, x :: l => f x :: mapFirst f n l

/-- The pattern shift bytes of a slot cleared. -/
def clearShift (s : SpriteSlot) : SpriteSlot := { s with shiftLo := 0, shiftHi := 0 }

/-- `PreRenderClear()` (62_ppu.md R373). -/
def preRenderClear (p : Ppu) : Ppu :=
  { p with
    status := p.status &&& 0x1F
    spriteCount := 0
    spriteZeroPossible := false
    slots := p.slots.map clearShift }

/-! ### Background (62_ppu.md R374 to R383) -/

/-- `ShiftBackground()` (R374). -/
def shiftBackground (p : Ppu) : Ppu :=
  { p with
    bgShiftPatLo := p.bgShiftPatLo <<< 1
    bgShiftPatHi := p.bgShiftPatHi <<< 1
    bgShiftAttrLo := p.bgShiftAttrLo <<< 1
    bgShiftAttrHi := p.bgShiftAttrHi <<< 1 }

/-- The low byte of a shifter replaced (R383). -/
def loadShifter (r : Word) (b : Byte) : Word := (r &&& 0xFF00) ||| zext16 b

/-- An attribute bit spread over eight shifter bits (R383). -/
def spreadBit (b : Bool) : Byte := if b then 0xFF else 0x00

/-- `LoadBgShifters()` (R383). -/
def loadBgShifters (p : Ppu) : Ppu :=
  { p with
    bgShiftPatLo := loadShifter p.bgShiftPatLo p.bgNextLo
    bgShiftPatHi := loadShifter p.bgShiftPatHi p.bgNextHi
    bgShiftAttrLo := loadShifter p.bgShiftAttrLo (spreadBit (p.bgNextAttr.getLsbD 0))
    bgShiftAttrHi := loadShifter p.bgShiftAttrHi (spreadBit (p.bgNextAttr.getLsbD 1)) }

/-- The address of the nametable fetch (R375). -/
def nametableAddr (v : Word) : Word := 0x2000 ||| (v &&& 0x0FFF)

/-- `FetchNametable` (R375). -/
def fetchNametable (c : Cart) (p : Ppu) : Ppu := { p with bgNextId := ppuRead c p (nametableAddr p.v) }

/-- The address of the attribute fetch (R376). -/
def attributeAddr (v : Word) : Word :=
  0x23C0 ||| (v &&& 0x0C00) ||| ((coarseY v >>> 2) <<< 3) ||| (coarseX v >>> 2)

/-- The two bits of an attribute byte for the tile's quadrant (R376, 90_conflicts.md C3). -/
def attributeBits (v : Word) (b : Byte) : Byte :=
  let b := if (coarseY v).getLsbD 1 then b >>> 4 else b
  let b := if (coarseX v).getLsbD 1 then b >>> 2 else b
  b &&& 0x03

/-- `FetchAttribute()` (R376). -/
def fetchAttribute (c : Cart) (p : Ppu) : Ppu :=
  { p with bgNextAttr := attributeBits p.v (ppuRead c p (attributeAddr p.v)) }

/-- The address of the low pattern byte of the tile being fetched (R377). -/
def patternAddr (p : Ppu) : Word :=
  (if p.ctrl.getLsbD 4 then 0x1000 else 0x0000) + (zext16 p.bgNextId <<< 4) + fineY p.v

/-- `FetchPatternLo()` (R377). -/
def fetchPatternLo (c : Cart) (p : Ppu) : Ppu := { p with bgNextLo := ppuRead c p (patternAddr p) }

/-- `FetchPatternHi()` (R378). -/
def fetchPatternHi (c : Cart) (p : Ppu) : Ppu := { p with bgNextHi := ppuRead c p (patternAddr p + 8) }

/-- `v` after `IncX()` (R379). -/
def incX (v : Word) : Word :=
  if coarseX v = 31#16 then replaceBits v 0x001F 0 ^^^ 0x0400 else replaceBits v 0x001F (coarseX v + 1)

/-- `v` after `IncY()` (R380). -/
def incY (v : Word) : Word :=
  if fineY v < 7#16 then replaceBits v 0x7000 ((fineY v + 1) <<< 12)
  else
    let v := replaceBits v 0x7000 0
    if coarseY v = 29#16 then replaceBits v 0x03E0 0 ^^^ 0x0800
    else if coarseY v = 31#16 then replaceBits v 0x03E0 0
    else replaceBits v 0x03E0 ((coarseY v + 1) <<< 5)

/-- `v` after `TransferX()`: coarse X and nametable X of `t` (R381). -/
def transferX (v t : Word) : Word := replaceBits v 0x041F t

/-- `v` after `TransferY()`: fine Y, nametable Y and coarse Y of `t` (R382). -/
def transferY (v t : Word) : Word := replaceBits v 0x7BE0 t

/-- The action of the sub-phase `(cycle - 1) mod 8` (R372). -/
def subPhase (c : Cart) (p : Ppu) : Ppu :=
  match (p.cycle - 1) % 8 with
  | 0 => fetchNametable c (loadBgShifters p)
  | 2 => fetchAttribute c p
  | 4 => fetchPatternLo c p
  | 6 => fetchPatternHi c p
  | 7 => if rendering p then { p with v := incX p.v } else p
  | _ => p

/-! ### Sprites (62_ppu.md R384 to R387) -/

/-- One sprite counted down or shifted (R387). -/
def updateSlot (s : SpriteSlot) : SpriteSlot :=
  if 0 < s.x.toNat then { s with x := s.x - 1 } else { s with shiftLo := s.shiftLo <<< 1, shiftHi := s.shiftHi <<< 1 }

/-- `UpdateSprites()` (R387). -/
def updateSprites (p : Ppu) : Ppu := { p with slots := mapFirst updateSlot p.spriteCount p.slots }

/-- The sprite height, 8 or 16 (R384). -/
def spriteHeight (p : Ppu) : Int := if p.ctrl.getLsbD 5 then 16 else 8

/-- OAM entry `n` copied into slot `k`; the shift bytes of the slot are those of the evaluation's clear (R384). -/
def copyEntry (oam : Memory) (n : Nat) (k : Nat) (slots : List SpriteSlot) : List SpriteSlot :=
  slots.set k {
    y := oam.read (4 * n)
    tile := oam.read (4 * n + 1)
    attr := oam.read (4 * n + 2)
    x := oam.read (4 * n + 3)
    shiftLo := 0
    shiftHi := 0 }

/-- Whether OAM entry `n` is in range of the current scanline (R384). -/
def inRange (p : Ppu) (n : Nat) : Bool :=
  let diff := p.scanline - (p.oam.read (4 * n)).toNat
  decide (0 ≤ diff) && decide (diff < spriteHeight p)

/-- The scan of the OAM entries `n`, `n + 1`, ... of which `fuel` are left: it ends at the ninth match (R384). -/
def scanOam : Nat → Nat → Ppu → Ppu
  | 0, _, p => p
  | fuel + 1, n, p =>
    if inRange p n then
      if p.spriteCount = 8 then { p with status := p.status ||| 0x20 }
      else
        scanOam fuel (n + 1)
          { p with
            spriteZeroPossible := p.spriteZeroPossible || decide (n = 0)
            slots := copyEntry p.oam n p.spriteCount p.slots
            spriteCount := p.spriteCount + 1 }
    else scanOam fuel (n + 1) p

/-- `SpriteEval()` (R384). -/
def spriteEval (p : Ppu) : Ppu :=
  scanOam 64 0 { p with spriteCount := 0, spriteZeroPossible := false, slots := p.slots.map clearShift }

/-- `BitReverse(b)` (R386). -/
def bitReverse (b : Byte) : Byte := b.reverse

/-- The address of the low pattern byte of a sprite on the current scanline (R385). -/
def spritePatternAddr (p : Ppu) (s : SpriteSlot) : Word :=
  let row : Word := BitVec.ofInt 16 (p.scanline - s.y.toNat)
  let vflip := s.attr.getLsbD 7
  if p.ctrl.getLsbD 5 = false then
    let r := if vflip then 7 - row else row
    (if p.ctrl.getLsbD 3 then 0x1000 else 0x0000) ||| (zext16 s.tile <<< 4) ||| r
  else
    let lower := decide (8 ≤ row.toNat)
    let half : Word := if lower != vflip then 1 else 0
    let r := if vflip then 7 - (row &&& 7) else row &&& 7
    ((zext16 s.tile &&& 1) <<< 12) ||| (((zext16 s.tile &&& 0xFE) + half) <<< 4) ||| r

/-- The shift bytes of one slot loaded (R385). -/
def loadSlot (c : Cart) (p : Ppu) (s : SpriteSlot) : SpriteSlot :=
  let a := spritePatternAddr p s
  let lo := ppuRead c p a
  let hi := ppuRead c p (a + 8)
  if s.attr.getLsbD 6 then { s with shiftLo := bitReverse lo, shiftHi := bitReverse hi }
  else { s with shiftLo := lo, shiftHi := hi }

/-- `LoadSpriteShifters()` (R385). -/
def loadSpriteShifters (c : Cart) (p : Ppu) : Ppu := { p with slots := mapFirst (loadSlot c p) p.spriteCount p.slots }

/-! ### Vertical blank (62_ppu.md R388) -/

/-- `VblankStart()` (R388). -/
def vblankStart (p : Ppu) : Ppu :=
  { p with status := p.status ||| 0x80, nmiRequest := p.nmiRequest || p.ctrl.getLsbD 7 }

/-! ### Pixel (62_ppu.md R389 to R393) -/

/-- A two-bit number of a high and a low bit. -/
def twoBits (hi lo : Bool) : Nat := (if hi then 2 else 0) + (if lo then 1 else 0)

/-- `(bg_pixel, bg_palette)` (R389). -/
def bgPixel (p : Ppu) : Nat × Nat :=
  if p.mask.getLsbD 3 then
    let k := 15 - p.fineX.toNat
    (twoBits (p.bgShiftPatHi.getLsbD k) (p.bgShiftPatLo.getLsbD k),
      twoBits (p.bgShiftAttrHi.getLsbD k) (p.bgShiftAttrLo.getLsbD k))
  else (0, 0)

/-- The pixel of the sprite of a slot whose delay has run out; 0 is transparent (R390). -/
def slotPixel (s : SpriteSlot) : Nat := if s.x = 0#8 then twoBits s.shiftHi.msb s.shiftLo.msb else 0

/-- The first of the first `n` slots with an opaque pixel, with its number (R390). -/
def firstOpaque : Nat → Nat → List SpriteSlot → Option (Nat × SpriteSlot)
  | 0, _, _ => none
  | _ + 1, _, [] => none
  | n + 1, i, s :: l => if slotPixel s = 0 then firstOpaque n (i + 1) l else some (i, s)

/-- The sprite that gives the foreground pixel, if any (R390). -/
def fgSprite (p : Ppu) : Option (Nat × SpriteSlot) :=
  if p.mask.getLsbD 4 then firstOpaque p.spriteCount 0 p.slots else none

/-- `fg_pixel`, 0 when there is no sprite (R390). -/
def fgPixel : Option (Nat × SpriteSlot) → Nat
  | some (_, s) => slotPixel s
  | none => 0

/-- `fg_palette` (R390). -/
def fgPalette : Option (Nat × SpriteSlot) → Nat
  | some (_, s) => (s.attr &&& 0x03).toNat + 4
  | none => 0

/-- `fg_front`: attribute bit 5 is 0 (R390). -/
def fgFront : Option (Nat × SpriteSlot) → Bool
  | some (_, s) => !s.attr.getLsbD 5
  | none => false

/-- `sprite_zero_rendering` of this pixel (R390). -/
def isSlotZero : Option (Nat × SpriteSlot) → Bool
  | some (i, _) => i == 0
  | none => false

/-- `(pix, pal)` of the merge (R391). -/
def mergePixel (bg : Nat × Nat) (fg : Nat × Nat) (front : Bool) : Nat × Nat :=
  if bg.1 = 0 ∧ fg.1 = 0 then (0, 0)
  else if bg.1 = 0 then fg
  else if fg.1 = 0 then bg
  else if front then fg else bg

/-- The first cycle at which sprite zero can hit (R392). -/
def firstHitCycle (p : Ppu) : Nat := if p.mask.getLsbD 1 && p.mask.getLsbD 2 then 1 else 9

/-- `SpriteZeroCheck()` (R392). -/
def spriteZeroCheck (p : Ppu) : Ppu :=
  if p.spriteZeroPossible = true ∧ p.spriteZeroRendering = true ∧ p.mask.getLsbD 3 = true ∧ p.mask.getLsbD 4 = true ∧
      firstHitCycle p ≤ p.cycle ∧ p.cycle ≤ 256 then
    { p with status := p.status ||| 0x40 }
  else p

/-- The index into the colour table of a pixel of a palette, through the palette's mirrors (R393). -/
def colourIndex (c : Cart) (p : Ppu) (pix pal : Nat) : BitVec 6 :=
  (ppuRead c p (0x3F00 + BitVec.ofNat 16 (pal * 4) + BitVec.ofNat 16 pix)).setWidth 6

/-- The frame cell of the current pixel: line `scanline`, column `cycle - 1` (R393). -/
def frameIndex (p : Ppu) : Nat := p.scanline.toNat * 256 + (p.cycle - 1)

/-- The pixel step: foreground, background, merge, sprite-zero check, colour and frame write (R389 to R393). -/
def composite (c : Cart) (p : Ppu) : Ppu :=
  let bg := bgPixel p
  let sprite := fgSprite p
  let fg := (fgPixel sprite, fgPalette sprite)
  let p₁ := { p with spriteZeroRendering := isSlotZero sprite }
  let p₂ := if bg.1 ≠ 0 ∧ fg.1 ≠ 0 then spriteZeroCheck p₁ else p₁
  let out := mergePixel bg fg (fgFront sprite)
  { p₂ with frame := frameWrite p₂.frame (frameIndex p₂) (Config.systemPalette (colourIndex c p₂ out.1 out.2)) }

/-! ### The clock (62_ppu.md R372, R394) -/

/-- `Advance()` (R394). -/
def advance (p : Ppu) : Ppu :=
  if p.cycle + 1 < 341 then { p with cycle := p.cycle + 1 }
  else if p.scanline + 1 < 261 then { p with cycle := 0, scanline := p.scanline + 1 }
  else { p with cycle := 0, scanline := -1, frameComplete := true }

/-- The fetch windows (R372). -/
def inFetchWindow (cycle : Nat) : Bool :=
  (decide (2 ≤ cycle) && decide (cycle ≤ 257)) || (decide (321 ≤ cycle) && decide (cycle ≤ 337))

/-- A step taken only when a condition holds. -/
def onlyIf (b : Bool) (f : Ppu → Ppu) (p : Ppu) : Ppu := if b then f p else p

/-- The fetch-window work of a clock: shift, sprite counters, sub-phase action (R372). -/
def windowWork (c : Cart) (p : Ppu) : Ppu :=
  subPhase c (onlyIf (decide (0 ≤ p.scanline) && decide (p.cycle ≤ 257)) updateSprites (shiftBackground p))

/-- The work of cycle 257: the shifter load and the horizontal copy (R381). -/
def horizontalReload (p : Ppu) : Ppu :=
  onlyIf (rendering p) (fun q => { q with v := transferX q.v q.t }) (loadBgShifters p)

/-- The work of a clock on lines -1 to 239 (R372). -/
def fetchLineWork (c : Cart) (p : Ppu) : Ppu :=
  let p₁ := onlyIf (decide (p.scanline = -1) && decide (p.cycle = 1)) preRenderClear p
  let p₂ := onlyIf (inFetchWindow p.cycle) (windowWork c) p₁
  let p₃ := onlyIf (decide (p.cycle = 256) && rendering p) (fun q => { q with v := incY q.v }) p₂
  let p₄ := onlyIf (decide (p.cycle = 257)) horizontalReload p₃
  let p₅ := onlyIf (decide (p.cycle = 257) && decide (0 ≤ p.scanline))
    (fun q => loadSpriteShifters c (spriteEval q)) p₄
  onlyIf (decide (p.scanline = -1) && decide (280 ≤ p.cycle) && decide (p.cycle ≤ 304) && rendering p)
    (fun q => { q with v := transferY q.v q.t }) p₅

/-- `PpuClock()` (R372). -/
def ppuClock (c : Cart) (p : Ppu) : Ppu :=
  let p₁ := onlyIf (decide (-1 ≤ p.scanline) && decide (p.scanline ≤ 239)) (fetchLineWork c) p
  let p₂ := onlyIf (decide (p.scanline = 241) && decide (p.cycle = 1)) vblankStart p₁
  let p₃ := onlyIf (decide (0 ≤ p.scanline) && decide (p.scanline ≤ 239) && decide (1 ≤ p.cycle) &&
    decide (p.cycle ≤ 256)) (composite c) p₂
  advance p₃

end Sys2Proof.Machine
end

