-- ==== Sys2Proof/Machine/Clock.lean ====
section
/-! DEFINITION. The orchestrator's tick (61_system_clock.md R340 to R343), and the placement of one instruction where the
next tick fetches it. -/

namespace Sys2Proof.Machine

/-- `ready` of R341: Reset() has been called since a load, and the cartridge is valid and has a mapper
(61_system_clock.md R341, 63_cartridge.md R434, R435; log entry 15). -/
def State.canClock (s : State) : Bool := s.ready && s.cart.mapper.isSome

/-- The PPU's part of a tick. -/
def tickPpu (s : State) : State := { s with ppu := ppuClock s.cart s.ppu }

/-- The NMI test: a pending request is taken back and the CPU's NMI entry made (61_system_clock.md R343). -/
def deliverNmi (s : State) : State :=
  if s.ppu.nmiRequest then nmiEntry { s with ppu := { s.ppu with nmiRequest := false } } else s

/-- The end of a tick: the NMI test, then the tick counted (61_system_clock.md R341). -/
def endTick (s : State) : State :=
  let t := deliverNmi s
  { t with tick := t.tick + 1 }

/-- What follows the CPU clock: nothing when it raised a fault, else the end of the tick (61_system_clock.md R341). -/
def afterCpu (t : State) : State := if t.fault.isSome then t else endTick t

/-- `Clock()` (61_system_clock.md R341). -/
def clock (s : State) : Host.Outcome State Fault Refusal :=
  if s.canClock = false then .refused .notReady
  else if s.fault.isSome then .next s
  else
    let s₁ := tickPpu s
    if s₁.tick % 3 = 0 then
      match cpuClock s₁ with
      | .next t => .next (afterCpu t)
      | .fault r => .fault r
      | .refused r => .refused r
    else .next (endTick s₁)

/-! ### Placing one instruction for the next tick (log entry 18) -/

/-- Whether an address is a byte of RAM or PRG, so that a byte can be placed there. -/
def placeable (a : Word) : Bool := decide (a.toNat ≤ 0x1FFF) || decide (0x8000 ≤ a.toNat)

/-- A byte placed in the RAM or PRG cell that a fetch of the address reads. -/
def placeByte (a : Word) (b : Byte) (s : State) : State :=
  if a.toNat ≤ 0x1FFF then { s with ram := s.ram.write (ramIndex a) b }
  else if 0x8000 ≤ a.toNat then { s with cart := { s.cart with prg := s.cart.prg.write (s.cart.prgOffset a) b } }
  else s

/-- A machine whose next tick fetches: ready with a cartridge, no fault, Idle, at a tick on which the CPU is clocked, no IRQ
asserted there. Whatever already holds stays. -/
def readyToFetch (s : State) : State :=
  let tick := s.tick / 3 * 3
  { s with
    cart := if s.cart.mapper.isSome then s.cart else Cart.blank
    ready := true
    fault := none
    tick := tick
    params := if irqAsserted s.params.irqLine tick then { s.params with irqLine := .listed false [] }
      else s.params
    cpu := { s.cpu with cycles := 0 } }

/-- Where the instruction is placed: at the PC when three bytes from there are RAM or PRG, else at the start of PRG. -/
def placeAddr (pc : Word) : Word := if placeable pc && placeable (pc + 1) && placeable (pc + 2) then pc else 0x8000

/-- Three bytes placed where the next tick fetches. -/
def placeForFetch (b₀ b₁ b₂ : Byte) (s : State) : State :=
  let s₁ := readyToFetch s
  let pc := placeAddr s₁.cpu.pc
  placeByte (pc + 2) b₂ (placeByte (pc + 1) b₁ (placeByte pc b₀ (s₁.setPc pc)))

end Sys2Proof.Machine
end

