-- ==== Sys2Proof/Machine/Step.lean ====
section
/-! DEFINITION. One step of the machine: one `Clock()` (61_system_clock.md R341). -/

namespace Sys2Proof.Machine

def step (s : State) : Host.Outcome State Fault Refusal := clock s

/-- `s` with the instruction of the low `nbits` bits of `w` (first byte least significant, the bytes after it 0) placed where
the next step fetches (log entry 18). -/
def State.withFetchWord (s : State) (nbits w : Nat) : State :=
  let v := w % 2 ^ nbits
  placeForFetch (BitVec.ofNat 8 v) (BitVec.ofNat 8 (v / 256)) (BitVec.ofNat 8 (v / 65536)) s

end Sys2Proof.Machine
end

