-- ==== Sys2Proof/Machine/HostOps.lean ====
section
/-! DEFINITION. The host's operations on the machine (61_system_clock.md R348), and system reset (70_reset_and_hazards.md
R460 to R466). `Clock()` is `step`. -/

namespace Sys2Proof.Machine

/-- `LoadCartridge(image)` (61_system_clock.md R348, 63_cartridge.md R432, R435): the report to the host, and the machine
after it. A load, complete or not, drops `ready` (70_reset_and_hazards.md R465). -/
def loadCartridge (image : List Byte) (s : State) : LoadReport × State :=
  let cart := s.cart.load s.params.memInit.chrRam image
  (cart.report, { s with cart := cart, ready := false })

/-- `CpuReset()` (70_reset_and_hazards.md R461). -/
def cpuReset (s : State) : State :=
  let r := memReadWord resetVector s
  { r.2 with cpu := {
      a := 0
      x := 0
      y := 0
      sp := 0xFD
      pc := r.1
      p := 0x20
      cycles := s.params.resetCycles
      scratch := Scratch.reset } }

/-- A sprite slot after Reset(): the shift bytes and the delay counter 0 (10_state.md R61, 92_eei_decisions.md D21), the rest
of its entry as it was (log entry 19). -/
def resetSlot (s : SpriteSlot) : SpriteSlot := { s with x := 0, shiftLo := 0, shiftHi := 0 }

/-- `PpuReset()` (70_reset_and_hazards.md R462, 10_state.md R61): the memories and the frame buffer stay. -/
def ppuReset (p : Ppu) : Ppu :=
  { Ppu.reset with
    slots := p.slots.map resetSlot
    nametable := p.nametable
    palette := p.palette
    oam := p.oam
    frame := p.frame }

/-- `BusReset()` (70_reset_and_hazards.md R463). -/
def busReset (s : State) : State := { s with port1 := Port.reset, port2 := Port.reset, tick := 0 }

/-- `Reset()` (70_reset_and_hazards.md R460, R466). RAM, the PPU memories, the cartridge and a recorded fault stay. -/
def systemReset (s : State) : Host.Outcome State Fault Refusal :=
  if s.cart.mapper.isSome then
    let s₁ := cpuReset s
    .next { busReset { s₁ with ppu := ppuReset s₁.ppu } with ready := true }
  else if s.cart.valid then .refused .noMapper
  else .refused .noCartridge

/-- `SetController(port, mask)` (61_system_clock.md R349, 70_reset_and_hazards.md R466). -/
def setController (port : Nat) (mask : Byte) (s : State) : Host.Outcome State Fault Refusal :=
  if port = 1 then .next { s with port1 := { s.port1 with live := mask } }
  else if port = 2 then .next { s with port2 := { s.port2 with live := mask } }
  else .refused (.noSuchPort port)

/-- `FrameComplete()` (61_system_clock.md R347, R348). -/
def readFrameComplete (s : State) : Bool := s.ppu.frameComplete

/-- `ClearFrameComplete()` (61_system_clock.md R347, R348). -/
def clearFrameComplete (s : State) : State := { s with ppu := { s.ppu with frameComplete := false } }

/-- `ReadFrame()`, one cell of it: line `y`, column `x` (61_system_clock.md R350). -/
def readFrame (s : State) (y x : Nat) : Colour := frameRead s.ppu.frame (256 * y + x)

end Sys2Proof.Machine
end

