-- ==== Sys2Proof/Safety.lean ====
section
/-! DEFINITION. What counts as a sound state and a safe step of the machine, in the terms the statements use. -/

namespace Sys2Proof.Machine

/-- PRG and CHR are in canonical form and, in a valid cartridge, inside their sizes (10_state.md R68). A failed load leaves no
valid cartridge and need not fit its header (log entry 16). -/
def Cart.memoryOk (c : Cart) : Bool :=
  c.prg.wf && c.chr.wf && (!c.valid || (Memory.below c.prgSize c.prg && Memory.below c.chrSize c.chr))

/-- Every memory is in its canonical form and inside its size (10_state.md R64, R65, R68): 2048 bytes of RAM, 2048 of nametables, 32 of
palette, 256 of OAM, PRG and CHR by the bank counts; the frame's 61440 cells rise strictly; `MEM_INIT` lists bytes of the memories only. -/
def State.memoryOk (s : State) : Bool :=
  s.ram.wf && Memory.below 2048 s.ram &&
  s.ppu.nametable.wf && Memory.below 2048 s.ppu.nametable &&
  s.ppu.palette.wf && Memory.below 32 s.ppu.palette &&
  s.ppu.oam.wf && Memory.below 256 s.ppu.oam &&
  s.cart.memoryOk && memInitOk s.params.memInit &&
  frameWfFrom 0 s.ppu.frame && s.ppu.frame.all (fun c => decide (c.1 < 61440))

/-- P with U = 1 and B = 0 (10_state.md R41, R42). -/
def State.statusOk (s : State) : Bool := s.flag .unused && !s.flag .brk

/-- The PPU's counters and sprite list in their ranges, the unused bits of Status 0, and the attribute latch a two-bit
palette (10_state.md R52, R58, R60, R62). -/
def State.ppuOk (s : State) : Bool :=
  decide (-1 ≤ s.ppu.scanline) && decide (s.ppu.scanline ≤ 260) && decide (s.ppu.cycle ≤ 340) &&
  decide (s.ppu.spriteCount ≤ 8) && decide (s.ppu.slots.length = 8) && decide (s.ppu.status &&& 0x1F = 0) &&
  decide (s.ppu.bgNextAttr &&& 0xFC = 0)

/-- No NMI request is pending between ticks (61_system_clock.md R343), but in a machine whose last tick a fault cut short
(R341: the NMI check is then skipped). -/
def State.nmiIdle (s : State) : Bool := !s.ppu.nmiRequest || s.fault.isSome

/-- The machine is sound between ticks: the conjunction of the above. -/
def State.Inv (s : State) : Prop := s.memoryOk = true ∧ s.statusOk = true ∧ s.ppuOk = true ∧ s.nmiIdle = true

/-- A step that is not refused: the only way a run of this machine can end (61_system_clock.md R341, 70_reset_and_hazards.md R466). -/
def SafeStep (s : State) : Prop := ∃ t, step s = .next t

end Sys2Proof.Machine
end

