-- ==== Sys2Proof/WellFormed.lean ====
section
/-! DEFINITION. Which terms are well formed. Every operand field of the hardware is a whole byte or word
(30_encoding.md R150: there are no sub-byte fields) and has that type, so the types leave nothing to check of an
instruction. The parameters are checked: an instruction or an entry occupies at least one CPU clock. -/

namespace Sys2Proof

/-- Every instruction is well formed: its operands are bytes and words by type (30_encoding.md R150, R154: every
defined opcode has one meaning, and no field of it is reserved). -/
def Instr.wellFormed (_ : Instr) : Bool := true

/-- A count of CPU clocks is positive, so that `cycles - 1` is exact (40_cycle_and_addressing.md R170). -/
def Params.wellFormed (p : Params) : Bool :=
  p.cycleBase.all (fun e => decide (0 < e.2)) && decide (0 < p.resetCycles) && decide (0 < p.irqCycles) &&
    decide (0 < p.nmiCycles)

end Sys2Proof
end

