-- ==== Sys2Proof/Certificates/Slice0/Obligations.lean ====
section
/-! DEFINITION. The statements for the provers, from the numbered rules of spec/, and the words they are said in. -/

namespace Sys2Proof.Machine

/-! ### Words for the statements about instructions

`exec` runs with the PC already past the instruction's bytes (40_cycle_and_addressing.md R172); for BRK, whose padding byte
the instruction itself skips, past the opcode byte (log entry 11). -/

/-- `exec` answers a next state whose CPU is `c` but for the scratch values, which no rule reads across instructions
(10_state.md R45), and which is `u` in everything else. -/
def RunsTo (i : Instr) (s : State) (c : Cpu) (u : State) : Prop :=
  ∃ t, exec i s = .next t ∧ t = { u with cpu := { c with scratch := t.cpu.scratch } }

/-- The base count of an opcode whose count in opcode_table.json is `n`: `n` itself under parameters that list no other count
for it, and the first listed count under those that do (`CYCLE_BASE`, 00_scope.md R8, 30_encoding.md R156). -/
def CycleBaseIs (code : Byte) (n : Nat) : Prop :=
  ∀ params : Params,
    ((∀ e, e ∈ params.cycleBase → e.1 ≠ code) → baseCycles params code = n) ∧
    (∀ before after k, params.cycleBase = before ++ (code, k) :: after → (∀ e, e ∈ before → e.1 ≠ code) →
      baseCycles params code = k)

/-- The instruction's first byte is `code`, and that opcode has the base count `n` unless `CYCLE_BASE` gives it another. -/
def HasCode (i : Instr) (code : Byte) (n : Nat) : Prop := (encode i).head? = some code ∧ CycleBaseIs code n

/-- The status byte `q` is `p` with the flags of `new` replaced and U set (00_scope.md R11). -/
def StatusIs (q p : Byte) (new : Flag → Option Bool) : Prop :=
  ∀ f, flagOf q f = if f = .unused then true else (new f).getD (flagOf p f)

/-- Z and N of a result (10_state.md R38, R44). -/
def zeroNegative (r : Byte) : Flag → Option Bool
  | .zero => some (decide (r = 0))
  | .negative => some (r.getLsbD 7)
  | _ => none

/-- C, Z and N of a result. -/
def carryZeroNegative (c : Bool) (r : Byte) : Flag → Option Bool
  | .carry => some c
  | .zero => some (decide (r = 0))
  | .negative => some (r.getLsbD 7)
  | _ => none

/-- No flag. -/
def noFlag : Flag → Option Bool := fun _ => none

/-- One flag. -/
def oneFlag (f : Flag) (b : Bool) : Flag → Option Bool := fun g => if g = f then some b else none

/-- The carry as a number. -/
def Cpu.carry (c : Cpu) : Nat := (flagOf c.p .carry).toNat

/-- A word of two bytes. -/
def wordOf (lo hi : Byte) : Word := BitVec.ofNat 16 (lo.toNat + 256 * hi.toNat)

/-- The RAM cell of the stack byte `k` above the byte SP names (44_stack.md R240). -/
def stackCell (sp : Byte) (k : Nat) : Nat := 0x100 + (sp.toNat + k) % 256

/-- The RAM cell of the `k`-th of several pushed bytes, the first at SP (44_stack.md R240). -/
def pushCell (sp : Byte) (k : Nat) : Nat := 0x100 + (sp.toNat + 256 - k) % 256

/-- The word of a vector, low byte first (60_exceptions.md R313). -/
def vectorWord (s : State) (vector : Word) : Word := wordOf (memRead vector s).1 (memRead (vector + 1) s).1

/-- A memory operand of an instruction, by addressing mode (30_encoding.md R150). -/
inductive MemOperand where
  | zp0 (zp : Byte)
  | zpx (zp : Byte)
  | zpy (zp : Byte)
  | abs (addr : Word)
  | abx (addr : Word)
  | aby (addr : Word)
  | izx (zp : Byte)
  | izy (zp : Byte)
  deriving DecidableEq, Repr

/-- The model's own function of the mode. -/
def MemOperand.mode : MemOperand → State → Addressed
  | .zp0 zp => modeZp0 zp
  | .zpx zp => modeZpx zp
  | .zpy zp => modeZpy zp
  | .abs addr => modeAbs addr
  | .abx addr => modeAbx addr
  | .aby addr => modeAby addr
  | .izx zp => modeIzx zp
  | .izy zp => modeIzy zp

/-- The effective address, as a meaning computes it. -/
def MemOperand.ea (o : MemOperand) (s : State) : Word := (o.mode s).ea

/-- Whether a page is crossed, as a meaning computes it. -/
def MemOperand.crosses (o : MemOperand) (s : State) : Bool := (o.mode s).crossed

/-- A byte of page 0, by the rules' `MemRead`. -/
def pageZeroByte (s : State) (n : Nat) : Nat := (memRead (BitVec.ofNat 16 (n % 256)) s).1.toNat

/-- The pointer word at a page-0 address, both bytes in page 0 (40_cycle_and_addressing.md R187, R188). -/
def pageZeroPointer (s : State) (n : Nat) : Nat := pageZeroByte s n + 256 * pageZeroByte s (n + 1)

/-- The address the rules give before a final index is added (40_cycle_and_addressing.md R179 to R188). -/
def MemOperand.base (s : State) : MemOperand → Nat
  | .zp0 zp => zp.toNat
  | .zpx zp => (zp.toNat + s.cpu.x.toNat) % 256
  | .zpy zp => (zp.toNat + s.cpu.y.toNat) % 256
  | .abs addr => addr.toNat
  | .abx addr => addr.toNat
  | .aby addr => addr.toNat
  | .izx zp => pageZeroPointer s (zp.toNat + s.cpu.x.toNat)
  | .izy zp => pageZeroPointer s zp.toNat

/-- The final index (40_cycle_and_addressing.md R184, R185, R188). -/
def MemOperand.index (s : State) : MemOperand → Nat
  | .abx _ => s.cpu.x.toNat
  | .aby _ => s.cpu.y.toNat
  | .izy _ => s.cpu.y.toNat
  | _ => 0

/-- Where a read instruction takes its operand M from: the instruction's own byte, or memory
(40_cycle_and_addressing.md R176, R178). -/
inductive Source where
  | imm (m : Byte)
  | mem (o : MemOperand)
  deriving DecidableEq, Repr

/-- M. -/
def Source.value (s : State) : Source → Byte
  | .imm m => m
  | .mem o => (memRead (o.ea s) s).1

/-- The machine after the operand is read, with the read's side effects (20_memory.md R114). -/
def Source.after (s : State) : Source → State
  | .imm _ => s
  | .mem o => (memRead (o.ea s) s).2

/-- The page-crossing cycle of a read instruction: only ABX, ABY and IZY give one, and only the operations of 30_encoding.md R155
have such forms (40_cycle_and_addressing.md R173). -/
def Source.extra (s : State) : Source → Nat
  | .imm _ => 0
  | .mem o => (o.crosses s).toNat

/-- The instructions that read an operand byte M (40_cycle_and_addressing.md R176). -/
inductive ReadOp where
  | adc
  | sbc
  | and_
  | ora
  | eor
  | bit
  | cmp
  | cpx
  | cpy
  | lda
  | ldx
  | ldy
  deriving DecidableEq, Repr

/-- The form of a read instruction over an operand, with its opcode and base count (the Encoding lines of 41_arith_logic.md,
42_compare.md, 45_load_store_transfer.md); none where the instruction has no such form. -/
def ReadOp.form : ReadOp → Source → Option (Instr × Byte × Nat)
  | .adc, .mem (.izx zp) => some (.adcIzx zp, 0x61, 6)
  | .adc, .mem (.zp0 zp) => some (.adcZp0 zp, 0x65, 3)
  | .adc, .imm m => some (.adcImm m, 0x69, 2)
  | .adc, .mem (.abs addr) => some (.adcAbs addr, 0x6D, 4)
  | .adc, .mem (.izy zp) => some (.adcIzy zp, 0x71, 5)
  | .adc, .mem (.zpx zp) => some (.adcZpx zp, 0x75, 4)
  | .adc, .mem (.aby addr) => some (.adcAby addr, 0x79, 4)
  | .adc, .mem (.abx addr) => some (.adcAbx addr, 0x7D, 4)
  | .sbc, .mem (.izx zp) => some (.sbcIzx zp, 0xE1, 6)
  | .sbc, .mem (.zp0 zp) => some (.sbcZp0 zp, 0xE5, 3)
  | .sbc, .imm m => some (.sbcImm m, 0xE9, 2)
  | .sbc, .mem (.abs addr) => some (.sbcAbs addr, 0xED, 4)
  | .sbc, .mem (.izy zp) => some (.sbcIzy zp, 0xF1, 5)
  | .sbc, .mem (.zpx zp) => some (.sbcZpx zp, 0xF5, 4)
  | .sbc, .mem (.aby addr) => some (.sbcAby addr, 0xF9, 4)
  | .sbc, .mem (.abx addr) => some (.sbcAbx addr, 0xFD, 4)
  | .and_, .mem (.izx zp) => some (.andIzx zp, 0x21, 6)
  | .and_, .mem (.zp0 zp) => some (.andZp0 zp, 0x25, 3)
  | .and_, .imm m => some (.andImm m, 0x29, 2)
  | .and_, .mem (.abs addr) => some (.andAbs addr, 0x2D, 4)
  | .and_, .mem (.izy zp) => some (.andIzy zp, 0x31, 5)
  | .and_, .mem (.zpx zp) => some (.andZpx zp, 0x35, 4)
  | .and_, .mem (.aby addr) => some (.andAby addr, 0x39, 4)
  | .and_, .mem (.abx addr) => some (.andAbx addr, 0x3D, 4)
  | .ora, .mem (.izx zp) => some (.oraIzx zp, 0x01, 6)
  | .ora, .mem (.zp0 zp) => some (.oraZp0 zp, 0x05, 3)
  | .ora, .imm m => some (.oraImm m, 0x09, 2)
  | .ora, .mem (.abs addr) => some (.oraAbs addr, 0x0D, 4)
  | .ora, .mem (.izy zp) => some (.oraIzy zp, 0x11, 5)
  | .ora, .mem (.zpx zp) => some (.oraZpx zp, 0x15, 4)
  | .ora, .mem (.aby addr) => some (.oraAby addr, 0x19, 4)
  | .ora, .mem (.abx addr) => some (.oraAbx addr, 0x1D, 4)
  | .eor, .mem (.izx zp) => some (.eorIzx zp, 0x41, 6)
  | .eor, .mem (.zp0 zp) => some (.eorZp0 zp, 0x45, 3)
  | .eor, .imm m => some (.eorImm m, 0x49, 2)
  | .eor, .mem (.abs addr) => some (.eorAbs addr, 0x4D, 4)
  | .eor, .mem (.izy zp) => some (.eorIzy zp, 0x51, 5)
  | .eor, .mem (.zpx zp) => some (.eorZpx zp, 0x55, 4)
  | .eor, .mem (.aby addr) => some (.eorAby addr, 0x59, 4)
  | .eor, .mem (.abx addr) => some (.eorAbx addr, 0x5D, 4)
  | .bit, .mem (.zp0 zp) => some (.bitZp0 zp, 0x24, 3)
  | .bit, .mem (.abs addr) => some (.bitAbs addr, 0x2C, 4)
  | .cmp, .mem (.izx zp) => some (.cmpIzx zp, 0xC1, 6)
  | .cmp, .mem (.zp0 zp) => some (.cmpZp0 zp, 0xC5, 3)
  | .cmp, .imm m => some (.cmpImm m, 0xC9, 2)
  | .cmp, .mem (.abs addr) => some (.cmpAbs addr, 0xCD, 4)
  | .cmp, .mem (.izy zp) => some (.cmpIzy zp, 0xD1, 5)
  | .cmp, .mem (.zpx zp) => some (.cmpZpx zp, 0xD5, 4)
  | .cmp, .mem (.aby addr) => some (.cmpAby addr, 0xD9, 4)
  | .cmp, .mem (.abx addr) => some (.cmpAbx addr, 0xDD, 4)
  | .cpx, .imm m => some (.cpxImm m, 0xE0, 2)
  | .cpx, .mem (.zp0 zp) => some (.cpxZp0 zp, 0xE4, 3)
  | .cpx, .mem (.abs addr) => some (.cpxAbs addr, 0xEC, 4)
  | .cpy, .imm m => some (.cpyImm m, 0xC0, 2)
  | .cpy, .mem (.zp0 zp) => some (.cpyZp0 zp, 0xC4, 3)
  | .cpy, .mem (.abs addr) => some (.cpyAbs addr, 0xCC, 4)
  | .lda, .mem (.izx zp) => some (.ldaIzx zp, 0xA1, 6)
  | .lda, .mem (.zp0 zp) => some (.ldaZp0 zp, 0xA5, 3)
  | .lda, .imm m => some (.ldaImm m, 0xA9, 2)
  | .lda, .mem (.abs addr) => some (.ldaAbs addr, 0xAD, 4)
  | .lda, .mem (.izy zp) => some (.ldaIzy zp, 0xB1, 5)
  | .lda, .mem (.zpx zp) => some (.ldaZpx zp, 0xB5, 4)
  | .lda, .mem (.aby addr) => some (.ldaAby addr, 0xB9, 4)
  | .lda, .mem (.abx addr) => some (.ldaAbx addr, 0xBD, 4)
  | .ldx, .imm m => some (.ldxImm m, 0xA2, 2)
  | .ldx, .mem (.zp0 zp) => some (.ldxZp0 zp, 0xA6, 3)
  | .ldx, .mem (.abs addr) => some (.ldxAbs addr, 0xAE, 4)
  | .ldx, .mem (.zpy zp) => some (.ldxZpy zp, 0xB6, 4)
  | .ldx, .mem (.aby addr) => some (.ldxAby addr, 0xBE, 4)
  | .ldy, .imm m => some (.ldyImm m, 0xA0, 2)
  | .ldy, .mem (.zp0 zp) => some (.ldyZp0 zp, 0xA4, 3)
  | .ldy, .mem (.abs addr) => some (.ldyAbs addr, 0xAC, 4)
  | .ldy, .mem (.zpx zp) => some (.ldyZpx zp, 0xB4, 4)
  | .ldy, .mem (.abx addr) => some (.ldyAbx addr, 0xBC, 4)
  | _, _ => none

/-- Every form of a read instruction completes: with M the operand, the flags of `new` and the registers of `regs` are
written, the page-crossing cycle is counted, and nothing else changes but by the operand's read. -/
def ReadOp.Runs (op : ReadOp) (new : Byte → Cpu → Flag → Option Bool) (regs : Byte → Cpu → Cpu) : Prop :=
  ∀ (src : Source) (i : Instr) (code : Byte) (n : Nat) (s : State), op.form src = some (i, code, n) →
    HasCode i code n ∧ ∃ q, StatusIs q s.cpu.p (new (src.value s) s.cpu) ∧
      RunsTo i s
        { regs (src.value s) s.cpu with
          p := q
          cycles := baseCycles s.params code + src.extra s }
        (src.after s)

/-- The stores. -/
inductive StoreOp where
  | sta
  | stx
  | sty
  deriving DecidableEq, Repr

/-- The form of a store, its opcode and base count (45_load_store_transfer.md R253 to R255). -/
def StoreOp.form : StoreOp → MemOperand → Option (Instr × Byte × Nat)
  | .sta, .izx zp => some (.staIzx zp, 0x81, 6)
  | .sta, .zp0 zp => some (.staZp0 zp, 0x85, 3)
  | .sta, .abs addr => some (.staAbs addr, 0x8D, 4)
  | .sta, .izy zp => some (.staIzy zp, 0x91, 6)
  | .sta, .zpx zp => some (.staZpx zp, 0x95, 4)
  | .sta, .aby addr => some (.staAby addr, 0x99, 5)
  | .sta, .abx addr => some (.staAbx addr, 0x9D, 5)
  | .stx, .zp0 zp => some (.stxZp0 zp, 0x86, 3)
  | .stx, .abs addr => some (.stxAbs addr, 0x8E, 4)
  | .stx, .zpy zp => some (.stxZpy zp, 0x96, 4)
  | .sty, .zp0 zp => some (.styZp0 zp, 0x84, 3)
  | .sty, .abs addr => some (.styAbs addr, 0x8C, 4)
  | .sty, .zpx zp => some (.styZpx zp, 0x94, 4)
  | _, _ => none

/-- The register a store writes to memory. -/
def StoreOp.register : StoreOp → Cpu → Byte
  | .sta, c => c.a
  | .stx, c => c.x
  | .sty, c => c.y

/-- The clocks a write adds to its instruction: those of an OAM DMA (20_memory.md R109, R110). -/
def stallOf (ea : Word) (s : State) : Nat :=
  if ea = 0x4014#16 then
    match s.params.dmaParity with
    | .evenIs513 => 513 + s.tick % 2
    | .evenIs514 => 514 - s.tick % 2
  else 0

/-- The read-modify-write instructions. -/
inductive ModifyOp where
  | asl
  | lsr
  | rol
  | ror
  | inc
  | dec
  deriving DecidableEq, Repr

/-- The form of a read-modify-write of memory, its opcode and base count (41_arith_logic.md R207, R208, 43_shift_rotate.md). -/
def ModifyOp.form : ModifyOp → MemOperand → Option (Instr × Byte × Nat)
  | .asl, .zp0 zp => some (.aslZp0 zp, 0x06, 5)
  | .asl, .abs addr => some (.aslAbs addr, 0x0E, 6)
  | .asl, .zpx zp => some (.aslZpx zp, 0x16, 6)
  | .asl, .abx addr => some (.aslAbx addr, 0x1E, 7)
  | .lsr, .zp0 zp => some (.lsrZp0 zp, 0x46, 5)
  | .lsr, .abs addr => some (.lsrAbs addr, 0x4E, 6)
  | .lsr, .zpx zp => some (.lsrZpx zp, 0x56, 6)
  | .lsr, .abx addr => some (.lsrAbx addr, 0x5E, 7)
  | .rol, .zp0 zp => some (.rolZp0 zp, 0x26, 5)
  | .rol, .abs addr => some (.rolAbs addr, 0x2E, 6)
  | .rol, .zpx zp => some (.rolZpx zp, 0x36, 6)
  | .rol, .abx addr => some (.rolAbx addr, 0x3E, 7)
  | .ror, .zp0 zp => some (.rorZp0 zp, 0x66, 5)
  | .ror, .abs addr => some (.rorAbs addr, 0x6E, 6)
  | .ror, .zpx zp => some (.rorZpx zp, 0x76, 6)
  | .ror, .abx addr => some (.rorAbx addr, 0x7E, 7)
  | .inc, .zp0 zp => some (.incZp0 zp, 0xE6, 5)
  | .inc, .abs addr => some (.incAbs addr, 0xEE, 6)
  | .inc, .zpx zp => some (.incZpx zp, 0xF6, 6)
  | .inc, .abx addr => some (.incAbx addr, 0xFE, 7)
  | .dec, .zp0 zp => some (.decZp0 zp, 0xC6, 5)
  | .dec, .abs addr => some (.decAbs addr, 0xCE, 6)
  | .dec, .zpx zp => some (.decZpx zp, 0xD6, 6)
  | .dec, .abx addr => some (.decAbx addr, 0xDE, 7)
  | _, _ => none

/-- The form on A, its opcode; every such form has base count 2 (43_shift_rotate.md R230 to R233). -/
def ModifyOp.accForm : ModifyOp → Option (Instr × Byte)
  | .asl => some (.aslAcc, 0x0A)
  | .lsr => some (.lsrAcc, 0x4A)
  | .rol => some (.rolAcc, 0x2A)
  | .ror => some (.rorAcc, 0x6A)
  | _ => none

/-- Every memory form of a read-modify-write completes: M read once at the effective address, the result written back there
once, the flags of `new` written, no page-crossing cycle. -/
def ModifyOp.Runs (op : ModifyOp) (new : Byte → Cpu → Flag → Option Bool) (result : Byte → Cpu → Byte) : Prop :=
  ∀ (o : MemOperand) (i : Instr) (code : Byte) (n : Nat) (s : State), op.form o = some (i, code, n) →
    let m := memRead (o.ea s) s
    HasCode i code n ∧ ∃ q, StatusIs q s.cpu.p (new m.1 s.cpu) ∧
      RunsTo i s { s.cpu with p := q, cycles := baseCycles s.params code + stallOf (o.ea s) s }
        (memWrite (o.ea s) (result m.1 s.cpu) m.2)

/-- The form on A completes: the result in A, the flags of `new` written, nothing else changed. -/
def ModifyOp.RunsOnA (op : ModifyOp) (new : Byte → Cpu → Flag → Option Bool) (result : Byte → Cpu → Byte) : Prop :=
  ∀ (i : Instr) (code : Byte) (s : State), op.accForm = some (i, code) →
    HasCode i code 2 ∧ ∃ q, StatusIs q s.cpu.p (new s.cpu.a s.cpu) ∧
      RunsTo i s { s.cpu with a := result s.cpu.a s.cpu, p := q, cycles := baseCycles s.params code } s

/-- An instruction of mode IMP that touches registers only completes. -/
def ImpliedRuns (i : Instr) (code : Byte) (n : Nat) (new : Cpu → Flag → Option Bool) (regs : Cpu → Cpu) : Prop :=
  HasCode i code n ∧ ∀ s : State, ∃ q, StatusIs q s.cpu.p (new s.cpu) ∧
    RunsTo i s { regs s.cpu with p := q, cycles := baseCycles s.params code } s

/-- The branches. -/
inductive BranchOp where
  | bcc
  | bcs
  | beq
  | bmi
  | bne
  | bpl
  | bvc
  | bvs
  deriving DecidableEq, Repr

/-- A branch and its opcode; every branch has base count 2 (46_control_transfer.md R271 to R278). -/
def BranchOp.form : BranchOp → Byte → Instr × Byte
  | .bcc, rel => (.bcc rel, 0x90)
  | .bcs, rel => (.bcs rel, 0xB0)
  | .beq, rel => (.beq rel, 0xF0)
  | .bmi, rel => (.bmi rel, 0x30)
  | .bne, rel => (.bne rel, 0xD0)
  | .bpl, rel => (.bpl rel, 0x10)
  | .bvc, rel => (.bvc rel, 0x50)
  | .bvs, rel => (.bvs rel, 0x70)

/-- The condition of a branch (46_control_transfer.md R271 to R278). -/
def BranchOp.taken (p : Byte) : BranchOp → Bool
  | .bcc => flagOf p .carry == false
  | .bcs => flagOf p .carry == true
  | .beq => flagOf p .zero == true
  | .bmi => flagOf p .negative == true
  | .bne => flagOf p .zero == false
  | .bpl => flagOf p .negative == false
  | .bvc => flagOf p .overflow == false
  | .bvs => flagOf p .overflow == true

/-- The addresses an instruction stores a byte to, computed as its meaning computes them: the effective address of a
store or a read-modify-write (40_cycle_and_addressing.md R176), the stack cells of a push (44_stack.md R240). -/
def storedTo : Instr → State → List Word
  | .staIzx zp, s => [(modeIzx zp s).ea]
  | .staZp0 zp, s => [(modeZp0 zp s).ea]
  | .staAbs addr, s => [(modeAbs addr s).ea]
  | .staIzy zp, s => [(modeIzy zp s).ea]
  | .staZpx zp, s => [(modeZpx zp s).ea]
  | .staAby addr, s => [(modeAby addr s).ea]
  | .staAbx addr, s => [(modeAbx addr s).ea]
  | .stxZp0 zp, s => [(modeZp0 zp s).ea]
  | .stxAbs addr, s => [(modeAbs addr s).ea]
  | .stxZpy zp, s => [(modeZpy zp s).ea]
  | .styZp0 zp, s => [(modeZp0 zp s).ea]
  | .styAbs addr, s => [(modeAbs addr s).ea]
  | .styZpx zp, s => [(modeZpx zp s).ea]
  | .aslZp0 zp, s => [(modeZp0 zp s).ea]
  | .aslAbs addr, s => [(modeAbs addr s).ea]
  | .aslZpx zp, s => [(modeZpx zp s).ea]
  | .aslAbx addr, s => [(modeAbx addr s).ea]
  | .lsrZp0 zp, s => [(modeZp0 zp s).ea]
  | .lsrAbs addr, s => [(modeAbs addr s).ea]
  | .lsrZpx zp, s => [(modeZpx zp s).ea]
  | .lsrAbx addr, s => [(modeAbx addr s).ea]
  | .rolZp0 zp, s => [(modeZp0 zp s).ea]
  | .rolAbs addr, s => [(modeAbs addr s).ea]
  | .rolZpx zp, s => [(modeZpx zp s).ea]
  | .rolAbx addr, s => [(modeAbx addr s).ea]
  | .rorZp0 zp, s => [(modeZp0 zp s).ea]
  | .rorAbs addr, s => [(modeAbs addr s).ea]
  | .rorZpx zp, s => [(modeZpx zp s).ea]
  | .rorAbx addr, s => [(modeAbx addr s).ea]
  | .incZp0 zp, s => [(modeZp0 zp s).ea]
  | .incAbs addr, s => [(modeAbs addr s).ea]
  | .incZpx zp, s => [(modeZpx zp s).ea]
  | .incAbx addr, s => [(modeAbx addr s).ea]
  | .decZp0 zp, s => [(modeZp0 zp s).ea]
  | .decAbs addr, s => [(modeAbs addr s).ea]
  | .decZpx zp, s => [(modeZpx zp s).ea]
  | .decAbx addr, s => [(modeAbx addr s).ea]
  | .pha, s => [stackAddr s.cpu.sp]
  | .php, s => [stackAddr s.cpu.sp]
  | .jsr _, s => [stackAddr s.cpu.sp, stackAddr (s.cpu.sp - 1)]
  | .brk, s => [stackAddr s.cpu.sp, stackAddr (s.cpu.sp - 1), stackAddr (s.cpu.sp - 2)]
  | _, _ => []

/-- Two CPU addresses of one RAM cell (20_memory.md R107). -/
def SameRamCell (a b : Word) : Prop := a.toNat ≤ 0x1FFF ∧ b.toNat ≤ 0x1FFF ∧ a.toNat % 2048 = b.toNat % 2048

/-- How many bytes of the stream an instruction's fetch reads: BRK's padding byte is not read
(47_flags_system.md R298). -/
def fetchedBytes (i : Instr) : Nat := if i = .brk then 1 else (encode i).length

/-- The machine after IRQ or NMI entry (60_exceptions.md R314): PC and the status byte pushed, I set, PC from the vector, the
count replaced. -/
def interrupted (vector : Word) (n : Nat) (s : State) : State :=
  let status : Byte := ((s.cpu.p &&& 0xEF) ||| 0x20) |||
    (if s.params.pushedIMode = .after then 0x04 else 0x00)
  { s with
    ram := ((s.ram.write (pushCell s.cpu.sp 0) (BitVec.ofNat 8 (s.cpu.pc.toNat / 256))).write (pushCell s.cpu.sp 1)
      (BitVec.ofNat 8 s.cpu.pc.toNat)).write (pushCell s.cpu.sp 2) status
    cpu := { s.cpu with
      sp := s.cpu.sp - 3
      pc := vectorWord s vector
      p := s.cpu.p ||| 0x24
      cycles := n } }

/-! ### Words for the statements about the PPU and the cartridge -/

/-- The bank table of 20_memory.md R124: the bank of logical region `q`. -/
def bankOf (m : Mirroring) (q : Nat) : Nat :=
  match m, q with
  | .vertical, 0 => 0
  | .vertical, 1 => 1
  | .vertical, 2 => 0
  | .vertical, _ => 1
  | .horizontal, 0 => 0
  | .horizontal, 1 => 0
  | .horizontal, _ => 1
  | .oneScreenLo, _ => 0
  | .oneScreenHi, _ => 1

/-- The nametable cell of a 14-bit PPU address: bank by the table, offset `a & 0x03FF` (20_memory.md R124). -/
def nametableCell (m : Mirroring) (a : Nat) : Nat := bankOf m (a / 1024 % 4) * 1024 + a % 1024

/-- The palette cell of a 14-bit PPU address (20_memory.md R125). -/
def paletteCell (a : Nat) : Nat :=
  if a % 32 = 16 ∨ a % 32 = 20 ∨ a % 32 = 24 ∨ a % 32 = 28 then a % 32 - 16 else a % 32

/-- The amount a VRAM data access adds to `v` (62_ppu.md R368). -/
def dataStep (p : Ppu) : Word := if p.ctrl.getLsbD 2 = true then 32 else 1

/-- The position of the PPU in its frame of 341 x 262 clocks (62_ppu.md R371). -/
def framePosition (p : Ppu) : Nat := (p.scanline + 1).toNat * 341 + p.cycle

/-- The counters in their ranges (10_state.md R62). -/
def CountersOk (p : Ppu) : Prop := -1 ≤ p.scanline ∧ p.scanline ≤ 260 ∧ p.cycle ≤ 340

/-- The lines that fetch: pre-render and visible (62_ppu.md R372). -/
def OnFetchLine (p : Ppu) : Prop := -1 ≤ p.scanline ∧ p.scanline ≤ 239

/-- The clocks that draw a pixel (62_ppu.md R372). -/
def OnPixel (p : Ppu) : Prop := 0 ≤ p.scanline ∧ p.scanline ≤ 239 ∧ 1 ≤ p.cycle ∧ p.cycle ≤ 256

/-- The fetch windows (62_ppu.md R372). -/
def inWindow (p : Ppu) : Prop := (2 ≤ p.cycle ∧ p.cycle ≤ 257) ∨ (321 ≤ p.cycle ∧ p.cycle ≤ 337)

/-- The sub-phase inside a window (62_ppu.md R372). -/
def phaseOf (p : Ppu) : Nat := (p.cycle - 1) % 8

/-- `rendering` (62_ppu.md R395). -/
def Renders (p : Ppu) : Prop := p.mask.getLsbD 3 = true ∨ p.mask.getLsbD 4 = true

/-- A shifter after one clock of a window (62_ppu.md R374, R383): shifted left; at a load its low byte is the latched byte. -/
def shifterAfter (p : Ppu) (r : Word) (latched : Byte) : Word :=
  if phaseOf p = 0 then BitVec.ofNat 16 (r.toNat * 2 / 256 * 256 % 65536 + latched.toNat) else BitVec.ofNat 16 (r.toNat * 2)

/-- An attribute bit over eight shifter bits (62_ppu.md R383). -/
def spread (b : Bool) : Byte := if b = true then 0xFF else 0x00

/-- The OAM entries in range of the current line, in OAM order (62_ppu.md R384). -/
def entriesInRange (p : Ppu) : List Nat :=
  (List.range 64).filter (fun n =>
    decide (0 ≤ p.scanline - (p.oam.read (4 * n)).toNat ∧
      p.scanline - (p.oam.read (4 * n)).toNat < if p.ctrl.getLsbD 5 = true then 16 else 8))

/-- The pattern address of row `row` of a sprite (62_ppu.md R385). -/
def spriteAddress (p : Ppu) (sp : SpriteSlot) (row : Nat) : Nat :=
  if p.ctrl.getLsbD 5 = false then
    (p.ctrl.getLsbD 3).toNat * 4096 + sp.tile.toNat * 16 + (if sp.attr.getLsbD 7 = true then 7 - row else row)
  else
    let half := if sp.attr.getLsbD 7 = true then 1 - row / 8 else row / 8
    sp.tile.toNat % 2 * 4096 + (sp.tile.toNat / 2 * 2 + half) * 16 +
      (if sp.attr.getLsbD 7 = true then 7 - row % 8 else row % 8)

/-- The shift byte a pattern byte gives: mirrored under a horizontal flip (62_ppu.md R385, R386). -/
def FlippedIs (flip : Bool) (b r : Byte) : Prop :=
  ∀ i, i < 8 → r.getLsbD i = if flip = true then b.getLsbD (7 - i) else b.getLsbD i

/-- A two-bit number. -/
def pairOf (hi lo : Prop) [Decidable hi] [Decidable lo] : Nat := (if hi then 2 else 0) + (if lo then 1 else 0)

/-- `(bg_pixel, bg_palette)` (62_ppu.md R389). -/
def backgroundOf (p : Ppu) : Nat × Nat :=
  let m : Word := 0x8000 >>> p.fineX.toNat
  if p.mask.getLsbD 3 = true then
    (pairOf (p.bgShiftPatHi &&& m ≠ 0) (p.bgShiftPatLo &&& m ≠ 0),
      pairOf (p.bgShiftAttrHi &&& m ≠ 0) (p.bgShiftAttrLo &&& m ≠ 0))
  else (0, 0)

/-- The pixel of slot `i`: 0 where the delay has not run out (62_ppu.md R390). -/
def slotPixelOf (p : Ppu) (i : Nat) : Nat :=
  match p.slots[i]? with
  | some sp => if sp.x = 0 then pairOf (sp.shiftHi.getLsbD 7 = true) (sp.shiftLo.getLsbD 7 = true) else 0
  | none => 0

/-- The lowest slot below `sprite_count` with an opaque pixel (62_ppu.md R390). -/
def foregroundSlot (p : Ppu) : Option Nat :=
  if p.mask.getLsbD 4 = true then (List.range p.spriteCount).find? (fun i => decide (slotPixelOf p i ≠ 0)) else none

/-- `fg_pixel`, `fg_palette` and `fg_front` (62_ppu.md R390). -/
def foregroundOf (p : Ppu) : Nat × Nat × Bool :=
  match foregroundSlot p with
  | some i =>
    match p.slots[i]? with
    | some sp => (slotPixelOf p i, sp.attr.toNat % 4 + 4, decide (sp.attr.getLsbD 5 = false))
    | none => (0, 0, false)
  | none => (0, 0, false)

/-- `(pix, pal)` (62_ppu.md R391). -/
def mergedOf (p : Ppu) : Nat × Nat :=
  let bg := backgroundOf p
  let fg := foregroundOf p
  if bg.1 = 0 ∧ fg.1 = 0 then (0, 0)
  else if bg.1 = 0 then (fg.1, fg.2.1)
  else if fg.1 = 0 then bg
  else if fg.2.2 = true then (fg.1, fg.2.1) else bg

/-! The 105 opcodes that 30_encoding.md R153 marks `--`, by row of its map. -/

def illegalRow0 : List Byte := [0x02, 0x03, 0x04, 0x07, 0x0B, 0x0C, 0x0F]

def illegalRow1 : List Byte := [0x12, 0x13, 0x14, 0x17, 0x1A, 0x1B, 0x1C, 0x1F]

def illegalRow2 : List Byte := [0x22, 0x23, 0x27, 0x2B, 0x2F]

def illegalRow3 : List Byte := [0x32, 0x33, 0x34, 0x37, 0x3A, 0x3B, 0x3C, 0x3F]

def illegalRow4 : List Byte := [0x42, 0x43, 0x44, 0x47, 0x4B, 0x4F]

def illegalRow5 : List Byte := [0x52, 0x53, 0x54, 0x57, 0x5A, 0x5B, 0x5C, 0x5F]

def illegalRow6 : List Byte := [0x62, 0x63, 0x64, 0x67, 0x6B, 0x6F]

def illegalRow7 : List Byte := [0x72, 0x73, 0x74, 0x77, 0x7A, 0x7B, 0x7C, 0x7F]

def illegalRow8 : List Byte := [0x80, 0x82, 0x83, 0x87, 0x89, 0x8B, 0x8F]

def illegalRow9 : List Byte := [0x92, 0x93, 0x97, 0x9B, 0x9C, 0x9E, 0x9F]

def illegalRowA : List Byte := [0xA3, 0xA7, 0xAB, 0xAF]

def illegalRowB : List Byte := [0xB2, 0xB3, 0xB7, 0xBB, 0xBF]

def illegalRowC : List Byte := [0xC2, 0xC3, 0xC7, 0xCB, 0xCF]

def illegalRowD : List Byte := [0xD2, 0xD3, 0xD4, 0xD7, 0xDA, 0xDB, 0xDC, 0xDF]

def illegalRowE : List Byte := [0xE2, 0xE3, 0xE7, 0xEB, 0xEF]

def illegalRowF : List Byte := [0xF2, 0xF3, 0xF4, 0xF7, 0xFA, 0xFB, 0xFC, 0xFF]

def illegalOpcodes : List Byte :=
  illegalRow0 ++ illegalRow1 ++ illegalRow2 ++ illegalRow3 ++ illegalRow4 ++ illegalRow5 ++ illegalRow6 ++ illegalRow7 ++
  illegalRow8 ++ illegalRow9 ++ illegalRowA ++ illegalRowB ++ illegalRowC ++ illegalRowD ++ illegalRowE ++ illegalRowF

end Sys2Proof.Machine

open Sys2Proof Sys2Proof.Machine

/-! ### Encoding -/

/-- Words of each family, bit by bit from the encodings of spec/, decode to their instructions: arithmetic, logic and
increments (41), compares (42), shifts and rotates (43), the stack (44), loads, stores and transfers (45), control transfer
(46), flags and system (47) (30_encoding.md R150, R151, R153, R157). -/
def Obligations.SpecWordsDecode : Prop :=
  decode [0x6D, 0x34, 0x12] = some (.adcAbs 0x1234, []) ∧
  decode [0x39, 0x34, 0x12] = some (.andAby 0x1234, []) ∧
  decode [0x15, 0x10] = some (.oraZpx 0x10, []) ∧
  decode [0x41, 0x10] = some (.eorIzx 0x10, []) ∧
  decode [0x24, 0x10] = some (.bitZp0 0x10, []) ∧
  decode [0xFE, 0x34, 0x12] = some (.incAbx 0x1234, []) ∧
  decode [0xC6, 0x10] = some (.decZp0 0x10, []) ∧
  decode [0xCA, 0xE8] = some (.dex, [0xE8]) ∧
  decode [0xD1, 0x10] = some (.cmpIzy 0x10, []) ∧
  decode [0xE0, 0x10] = some (.cpxImm 0x10, []) ∧
  decode [0xCC, 0x34, 0x12] = some (.cpyAbs 0x1234, []) ∧
  decode [0x5E, 0x34, 0x12] = some (.lsrAbx 0x1234, []) ∧
  decode [0x2A] = some (.rolAcc, []) ∧
  decode [0x76, 0x10] = some (.rorZpx 0x10, []) ∧
  decode [0x48] = some (.pha, []) ∧
  decode [0x28] = some (.plp, []) ∧
  decode [0xAA] = some (.tax, []) ∧
  decode [0x9A] = some (.txs, []) ∧
  decode [0x20, 0x34, 0x12] = some (.jsr 0x1234, []) ∧
  decode [0x60] = some (.rts, []) ∧
  decode [0x38] = some (.sec, []) ∧
  decode [0xB8] = some (.clv, []) ∧
  decode [0xEA] = some (.nop, []) ∧
  decode [0x40] = some (.rti, []) ∧
  decode [0xA9, 0x10] = some (.ldaImm 0x10, []) ∧
  decode [0xBD, 0x34, 0x12] = some (.ldaAbx 0x1234, []) ∧
  decode [0xB6, 0x10] = some (.ldxZpy 0x10, []) ∧
  decode [0x81, 0x10] = some (.staIzx 0x10, []) ∧
  decode [0xF1, 0x10] = some (.sbcIzy 0x10, []) ∧
  decode [0x0A] = some (.aslAcc, []) ∧
  decode [0x6C, 0xFF, 0x02] = some (.jmpInd 0x02FF, []) ∧
  decode [0xD0, 0xFB] = some (.bne 0xFB, []) ∧
  decode [0x00, 0xFF, 0xEA] = some (.brk, [0xEA])

/-- Decoding the bytes of an instruction gives the instruction back, and leaves what follows them
(30_encoding.md R150, R151, R153, R154). -/
def Obligations.DecodeOfEncode : Prop :=
  ∀ (i : Instr) (rest : List Byte), i.wellFormed = true → decode (encode i ++ rest) = some (i, rest)

/-- What decodes is an instruction's own bytes, but for BRK's padding byte, which may be any
byte or, by the model's choice (log entry 12), be missing (30_encoding.md R150, R154). -/
def Obligations.EncodeOfDecode : Prop :=
  ∀ (bytes rest : List Byte) (i : Instr), decode bytes = some (i, rest) →
    (i ≠ .brk → bytes = encode i ++ rest) ∧ (i = .brk → ∃ after, bytes = 0x00 :: after ∧ rest = after.drop 1)

/-- With enough bytes after it, an opcode fails to decode exactly when 30_encoding.md R153 marks it `--`; there are 105 such
opcodes. -/
def Obligations.IllegalOpcodesAreTheUndefinedOnes : Prop :=
  illegalOpcodes.length = 105 ∧ illegalOpcodes.Nodup ∧
  ∀ (op b c : Byte) (rest : List Byte), decode (op :: b :: c :: rest) = none ↔ op ∈ illegalOpcodes

/-! ### Addressing -/

/-- The addressing modes give the rules' effective address and page crossing, and change nothing but the note of the
address (40_cycle_and_addressing.md R179 to R181, R183 to R185, R187, R188). -/
def Obligations.AddressingModesGiveTheEffectiveAddress : Prop :=
  ∀ (o : MemOperand) (s : State),
    (o.ea s).toNat = (o.base s + o.index s) % 65536 ∧
    o.crosses s = decide ((o.ea s).toNat / 256 ≠ o.base s / 256) ∧
    (o.mode s).after = { s with cpu := { s.cpu with scratch := { s.cpu.scratch with addrAbs := o.ea s } } }

/-! ### Arithmetic and logic -/

/-- ADC (41_arith_logic.md R200). -/
def Obligations.AdcAddsOperandAndCarry : Prop :=
  ReadOp.Runs .adc
    (fun m c =>
      let t := c.a.toNat + m.toNat + c.carry
      fun
      | .carry => some (decide (0xFF < t))
      | .zero => some (decide (t % 256 = 0))
      | .overflow => some (decide (~~~(c.a ^^^ m) &&& (c.a ^^^ BitVec.ofNat 8 t) &&& 0x80 ≠ 0))
      | .negative => some (t.testBit 7)
      | _ => none)
    (fun m c => { c with a := BitVec.ofNat 8 (c.a.toNat + m.toNat + c.carry) })

/-- SBC (41_arith_logic.md R201). -/
def Obligations.SbcSubtractsOperandAndBorrow : Prop :=
  ReadOp.Runs .sbc
    (fun m c =>
      let w := m ^^^ 0xFF
      let t := c.a.toNat + w.toNat + c.carry
      fun
      | .carry => some (decide (0xFF < t))
      | .zero => some (decide (t % 256 = 0))
      | .overflow => some (decide ((BitVec.ofNat 8 t ^^^ c.a) &&& (BitVec.ofNat 8 t ^^^ w) &&& 0x80 ≠ 0))
      | .negative => some (t.testBit 7)
      | _ => none)
    (fun m c => { c with a := BitVec.ofNat 8 (c.a.toNat + (m ^^^ 0xFF).toNat + c.carry) })

/-- After ADC, V is 1 exactly when the signed sum of A, M and C does not fit in 8 bits; after SBC, when the signed difference
A - M - (1 - C) does not, and C is 1 exactly when there is no borrow (10_state.md R37, R43, 41_arith_logic.md R201, R202). -/
def Obligations.OverflowIsSignedOverflow : Prop :=
  ∀ (src : Source) (i : Instr) (code : Byte) (n : Nat) (s : State),
    let a := s.cpu.a
    let m := src.value s
    (ReadOp.form .adc src = some (i, code, n) → ∃ t, exec i s = .next t ∧
      (t.flag .overflow = true ↔ a.toInt + m.toInt + s.cpu.carry < -128 ∨ 127 < a.toInt + m.toInt + s.cpu.carry)) ∧
    (ReadOp.form .sbc src = some (i, code, n) → ∃ t, exec i s = .next t ∧
      (t.flag .overflow = true ↔ a.toInt - m.toInt - (1 - (s.cpu.carry : Int)) < -128 ∨
        127 < a.toInt - m.toInt - (1 - (s.cpu.carry : Int))) ∧
      (t.flag .carry = true ↔ m.toNat + (1 - s.cpu.carry) ≤ a.toNat))

/-- AND, ORA, EOR (41_arith_logic.md R203, R204, R205). -/
def Obligations.LogicWritesAccumulator : Prop :=
  ReadOp.Runs .and_ (fun m c => zeroNegative (c.a &&& m)) (fun m c => { c with a := c.a &&& m }) ∧
  ReadOp.Runs .ora (fun m c => zeroNegative (c.a ||| m)) (fun m c => { c with a := c.a ||| m }) ∧
  ReadOp.Runs .eor (fun m c => zeroNegative (c.a ^^^ m)) (fun m c => { c with a := c.a ^^^ m })

/-- BIT (41_arith_logic.md R206). -/
def Obligations.BitTestsWithoutWriting : Prop :=
  ReadOp.Runs .bit
    (fun m c => fun
      | .zero => some (decide (c.a &&& m = 0))
      | .negative => some (m.getLsbD 7)
      | .overflow => some (m.getLsbD 6)
      | _ => none)
    (fun _ c => c)

/-- The compares (42_compare.md R220 to R223). -/
def Obligations.ComparesWriteFlagsOnly : Prop :=
  ReadOp.Runs .cmp (fun m c => fun
    | .carry => some (decide (m.toNat ≤ c.a.toNat))
    | .zero => some (decide (c.a = m))
    | .negative => some ((c.a - m).getLsbD 7)
    | _ => none) (fun _ c => c) ∧
  ReadOp.Runs .cpx (fun m c => fun
    | .carry => some (decide (m.toNat ≤ c.x.toNat))
    | .zero => some (decide (c.x = m))
    | .negative => some ((c.x - m).getLsbD 7)
    | _ => none) (fun _ c => c) ∧
  ReadOp.Runs .cpy (fun m c => fun
    | .carry => some (decide (m.toNat ≤ c.y.toNat))
    | .zero => some (decide (c.y = m))
    | .negative => some ((c.y - m).getLsbD 7)
    | _ => none) (fun _ c => c)

/-- INC and DEC of memory, INX, INY, DEX, DEY (41_arith_logic.md R207 to R212). -/
def Obligations.IncrementsAndDecrements : Prop :=
  let up := fun (b : Byte) => BitVec.ofNat 8 (b.toNat + 1)
  let down := fun (b : Byte) => BitVec.ofInt 8 ((b.toNat : Int) - 1)
  ModifyOp.Runs .inc (fun m _ => zeroNegative (up m)) (fun m _ => up m) ∧
  ModifyOp.Runs .dec (fun m _ => zeroNegative (down m)) (fun m _ => down m) ∧
  ImpliedRuns .inx 0xE8 2 (fun c => zeroNegative (up c.x)) (fun c => { c with x := up c.x }) ∧
  ImpliedRuns .iny 0xC8 2 (fun c => zeroNegative (up c.y)) (fun c => { c with y := up c.y }) ∧
  ImpliedRuns .dex 0xCA 2 (fun c => zeroNegative (down c.x)) (fun c => { c with x := down c.x }) ∧
  ImpliedRuns .dey 0x88 2 (fun c => zeroNegative (down c.y)) (fun c => { c with y := down c.y })

/-- The shifts and rotates, on memory and on A (43_shift_rotate.md R230 to R233). -/
def Obligations.ShiftsAndRotates : Prop :=
  let left := fun (m : Byte) (b : Nat) => BitVec.ofNat 8 (m.toNat * 2 + b)
  let right := fun (m : Byte) (b : Nat) => BitVec.ofNat 8 (128 * b + m.toNat / 2)
  (ModifyOp.Runs .asl (fun m _ => carryZeroNegative (m.getLsbD 7) (left m 0)) (fun m _ => left m 0) ∧
    ModifyOp.RunsOnA .asl (fun m _ => carryZeroNegative (m.getLsbD 7) (left m 0)) (fun m _ => left m 0)) ∧
  (ModifyOp.Runs .lsr (fun m _ => carryZeroNegative (m.getLsbD 0) (right m 0)) (fun m _ => right m 0) ∧
    ModifyOp.RunsOnA .lsr (fun m _ => carryZeroNegative (m.getLsbD 0) (right m 0)) (fun m _ => right m 0)) ∧
  (ModifyOp.Runs .rol (fun m c => carryZeroNegative (m.getLsbD 7) (left m c.carry)) (fun m c => left m c.carry) ∧
    ModifyOp.RunsOnA .rol (fun m c => carryZeroNegative (m.getLsbD 7) (left m c.carry)) (fun m c => left m c.carry)) ∧
  (ModifyOp.Runs .ror (fun m c => carryZeroNegative (m.getLsbD 0) (right m c.carry)) (fun m c => right m c.carry) ∧
    ModifyOp.RunsOnA .ror (fun m c => carryZeroNegative (m.getLsbD 0) (right m c.carry)) (fun m c => right m c.carry))

/-! ### Loads, stores, transfers, stack -/

/-- LDA, LDX, LDY (45_load_store_transfer.md R250 to R252). -/
def Obligations.LoadsWriteTheirRegister : Prop :=
  ReadOp.Runs .lda (fun m _ => zeroNegative m) (fun m c => { c with a := m }) ∧
  ReadOp.Runs .ldx (fun m _ => zeroNegative m) (fun m c => { c with x := m }) ∧
  ReadOp.Runs .ldy (fun m _ => zeroNegative m) (fun m c => { c with y := m })

/-- STA, STX, STY: one write at the effective address, no read of it, no flag, an OAM DMA's stall counted
(45_load_store_transfer.md R253 to R255, 20_memory.md R110). -/
def Obligations.StoresWriteTheirRegister : Prop :=
  ∀ (op : StoreOp) (o : MemOperand) (i : Instr) (code : Byte) (n : Nat) (s : State), op.form o = some (i, code, n) →
    HasCode i code n ∧ ∃ q, StatusIs q s.cpu.p noFlag ∧
      RunsTo i s { s.cpu with p := q, cycles := baseCycles s.params code + stallOf (o.ea s) s }
        (memWrite (o.ea s) (op.register s.cpu) s)

/-- The transfers (45_load_store_transfer.md R256 to R261). -/
def Obligations.TransfersCopyOneRegister : Prop :=
  ImpliedRuns .tax 0xAA 2 (fun c => zeroNegative c.a) (fun c => { c with x := c.a }) ∧
  ImpliedRuns .tay 0xA8 2 (fun c => zeroNegative c.a) (fun c => { c with y := c.a }) ∧
  ImpliedRuns .txa 0x8A 2 (fun c => zeroNegative c.x) (fun c => { c with a := c.x }) ∧
  ImpliedRuns .tya 0x98 2 (fun c => zeroNegative c.y) (fun c => { c with a := c.y }) ∧
  ImpliedRuns .tsx 0xBA 2 (fun c => zeroNegative c.sp) (fun c => { c with x := c.sp }) ∧
  ImpliedRuns .txs 0x9A 2 (fun _ => noFlag) (fun c => { c with sp := c.x })

/-- PHA and PHP push one byte at `0x0100 + SP` and take one off SP; PLA and PLP pull the byte one above SP
(44_stack.md R240 to R244). -/
def Obligations.StackInstructions : Prop :=
  HasCode .pha 0x48 3 ∧ HasCode .php 0x08 3 ∧ HasCode .pla 0x68 4 ∧ HasCode .plp 0x28 4 ∧
  (∀ s : State, ∃ q, StatusIs q s.cpu.p noFlag ∧
    RunsTo .pha s { s.cpu with sp := s.cpu.sp - 1, p := q, cycles := baseCycles s.params 0x48 }
      { s with ram := s.ram.write (pushCell s.cpu.sp 0) s.cpu.a } ∧
    ∃ pushed, (∀ f, flagOf pushed f = (decide (f = .brk) || decide (f = .unused) || flagOf s.cpu.p f)) ∧
      RunsTo .php s { s.cpu with sp := s.cpu.sp - 1, p := q, cycles := baseCycles s.params 0x08 }
        { s with ram := s.ram.write (pushCell s.cpu.sp 0) pushed }) ∧
  (∀ s : State,
    let b := s.ram.read (stackCell s.cpu.sp 1)
    (∃ q, StatusIs q s.cpu.p (zeroNegative b) ∧
      RunsTo .pla s { s.cpu with a := b, sp := s.cpu.sp + 1, p := q, cycles := baseCycles s.params 0x68 } s) ∧
    ∃ q, StatusIs q b (oneFlag .brk false) ∧
      RunsTo .plp s { s.cpu with sp := s.cpu.sp + 1, p := q, cycles := baseCycles s.params 0x28 } s)

/-! ### Control transfer -/

/-- The branches (46_control_transfer.md R270 to R278, 40_cycle_and_addressing.md R182). -/
def Obligations.BranchesFollowTheirFlag : Prop :=
  ∀ (op : BranchOp) (rel : Byte) (s : State),
    let target : Word := BitVec.ofInt 16 (s.cpu.pc.toNat + rel.toInt)
    HasCode (op.form rel).1 (op.form rel).2 2 ∧ ∃ q, StatusIs q s.cpu.p noFlag ∧
      (op.taken s.cpu.p = true → RunsTo (op.form rel).1 s
        { s.cpu with
          pc := target
          p := q
          cycles := baseCycles s.params (op.form rel).2 +
            if target.toNat / 256 ≠ s.cpu.pc.toNat / 256 then 2 else 1 } s) ∧
      (op.taken s.cpu.p = false →
        RunsTo (op.form rel).1 s { s.cpu with p := q, cycles := baseCycles s.params (op.form rel).2 } s)

/-- JMP, direct and indirect, with the page wrap of the pointer (46_control_transfer.md R279,
40_cycle_and_addressing.md R183, R186). -/
def Obligations.JumpsLoadThePc : Prop :=
  (∀ addr, HasCode (.jmpAbs addr) 0x4C 3) ∧ (∀ ptr, HasCode (.jmpInd ptr) 0x6C 5) ∧ ∀ (addr : Word) (s : State),
    ∃ q, StatusIs q s.cpu.p noFlag ∧
      RunsTo (.jmpAbs addr) s { s.cpu with pc := addr, p := q, cycles := baseCycles s.params 0x4C } s ∧
      let lo := memRead addr s
      let hi := memRead (if addr.toNat % 256 = 255 then addr - 255 else addr + 1) lo.2
      RunsTo (.jmpInd addr) s { s.cpu with pc := wordOf lo.1 hi.1, p := q, cycles := baseCycles s.params 0x6C } hi.2

/-- JSR pushes the address of its last byte, high byte first; RTS pulls a word and adds one
(46_control_transfer.md R280, R281). -/
def Obligations.SubroutineCallAndReturn : Prop :=
  (∀ addr, HasCode (.jsr addr) 0x20 6) ∧ HasCode .rts 0x60 6 ∧ ∀ (addr : Word) (s : State),
    ∃ q, StatusIs q s.cpu.p noFlag ∧
      let last := s.cpu.pc - 1
      RunsTo (.jsr addr) s
        { s.cpu with pc := addr, sp := s.cpu.sp - 2, p := q, cycles := baseCycles s.params 0x20 }
        { s with
          ram := (s.ram.write (pushCell s.cpu.sp 0) (BitVec.ofNat 8 (last.toNat / 256))).write (pushCell s.cpu.sp 1)
            (BitVec.ofNat 8 last.toNat) } ∧
      RunsTo .rts s
        { s.cpu with
          pc := wordOf (s.ram.read (stackCell s.cpu.sp 1)) (s.ram.read (stackCell s.cpu.sp 2)) + 1
          sp := s.cpu.sp + 2
          p := q
          cycles := baseCycles s.params 0x60 } s

/-! ### Flags and system -/

/-- The flag instructions and NOP (47_flags_system.md R290 to R297). -/
def Obligations.FlagInstructionsWriteOneFlag : Prop :=
  ImpliedRuns .clc 0x18 2 (fun _ => oneFlag .carry false) (fun c => c) ∧
  ImpliedRuns .cld 0xD8 2 (fun _ => oneFlag .decimal false) (fun c => c) ∧
  ImpliedRuns .cli 0x58 2 (fun _ => oneFlag .interruptDisable false) (fun c => c) ∧
  ImpliedRuns .clv 0xB8 2 (fun _ => oneFlag .overflow false) (fun c => c) ∧
  ImpliedRuns .sec 0x38 2 (fun _ => oneFlag .carry true) (fun c => c) ∧
  ImpliedRuns .sed 0xF8 2 (fun _ => oneFlag .decimal true) (fun c => c) ∧
  ImpliedRuns .sei 0x78 2 (fun _ => oneFlag .interruptDisable true) (fun c => c) ∧
  ImpliedRuns .nop 0xEA 2 (fun _ => noFlag) (fun c => c)

/-- BRK: its padding byte skipped, PC and P with B and U set pushed, I set, PC from the IRQ/BRK vector
(47_flags_system.md R298). -/
def Obligations.BrkEntersTheVector : Prop :=
  HasCode .brk 0x00 7 ∧ ∀ s : State,
    let resume := s.cpu.pc + 1
    ∃ q pushed, StatusIs q s.cpu.p (oneFlag .interruptDisable true) ∧
      (∀ f, flagOf pushed f = (decide (f = .brk) || decide (f = .unused) || flagOf s.cpu.p f)) ∧
      RunsTo .brk s
        { s.cpu with
          pc := vectorWord s 0xFFFE
          sp := s.cpu.sp - 3
          p := q
          cycles := baseCycles s.params 0x00 }
        { s with
          ram := ((s.ram.write (pushCell s.cpu.sp 0) (BitVec.ofNat 8 (resume.toNat / 256))).write (pushCell s.cpu.sp 1)
            (BitVec.ofNat 8 resume.toNat)).write (pushCell s.cpu.sp 2) pushed }

/-- RTI: P pulled with B cleared and U set, then PC pulled (47_flags_system.md R299). -/
def Obligations.RtiRestoresStatusAndPc : Prop :=
  HasCode .rti 0x40 6 ∧ ∀ s : State, ∃ q, StatusIs q (s.ram.read (stackCell s.cpu.sp 1)) (oneFlag .brk false) ∧
    RunsTo .rti s
      { s.cpu with
        pc := wordOf (s.ram.read (stackCell s.cpu.sp 2)) (s.ram.read (stackCell s.cpu.sp 3))
        sp := s.cpu.sp + 3
        p := q
        cycles := baseCycles s.params 0x40 } s

/-! ### All instructions -/

/-- Every instruction stores only where its meaning says: each byte of RAM, of open bus above the ports and of PRG reads as
before, but for the RAM cells it stores to; the nametables, the palette and CHR stay unless it stores to the VRAM data
port, OAM unless it stores to the OAM data port or the DMA port (40_cycle_and_addressing.md R176, 44_stack.md R240,
20_memory.md R107 to R109, R113, R115, 62_ppu.md R360). -/
def Obligations.InstructionsStoreOnlyWhereTheySay : Prop :=
  ∀ (i : Instr) (s t : State), exec i s = .next t →
    let toPort := fun (k : Nat) (b : Word) => 0x2000 ≤ b.toNat ∧ b.toNat ≤ 0x3FFF ∧ b.toNat % 8 = k
    (∀ a : Word, (a.toNat ≤ 0x1FFF ∨ 0x4018 ≤ a.toNat) → (∀ b, b ∈ storedTo i s → ¬ SameRamCell a b) →
      (memRead a t).1 = (memRead a s).1) ∧
    ((∀ b, b ∈ storedTo i s → ¬ toPort 7 b) → t.ppu.nametable = s.ppu.nametable ∧ t.ppu.palette = s.ppu.palette ∧
      t.cart.chr = s.cart.chr) ∧
    ((∀ b, b ∈ storedTo i s → ¬ toPort 4 b ∧ b ≠ 0x4014#16) → t.ppu.oam = s.ppu.oam)

/-- Every instruction answers a next state: no instruction faults, and none touches the tick, the parameters, the fault, the
program or the cartridge's header; U reads 1 after it, and B stays 0 (60_exceptions.md R311, 10_state.md R41, R42, R68). -/
def Obligations.NoInstructionFaults : Prop :=
  ∀ (i : Instr) (s : State), ∃ t, exec i s = .next t ∧
    t = { s with
      cpu := t.cpu
      ppu := t.ppu
      cart := { s.cart with chr := t.cart.chr }
      ram := t.ram
      port1 := { t.port1 with live := s.port1.live }
      port2 := { t.port2 with live := s.port2.live } } ∧
    (s.cart.chrBanks ≠ 0#8 → t.cart.chr = s.cart.chr) ∧
    t.flag .unused = true ∧ (s.flag .brk = false → t.flag .brk = false)

/-- No instruction touches the PPU's pipeline: the counters, the fetch latches and shifters, the sprite list, the frame, the
NMI request; of Status it can only clear vblank (10_state.md R52, R58 to R63, 62_ppu.md R384, R388, R392). -/
def Obligations.InstructionsLeaveThePipeline : Prop :=
  ∀ (i : Instr) (s t : State), exec i s = .next t →
    t.ppu = { s.ppu with
      ctrl := t.ppu.ctrl
      mask := t.ppu.mask
      status := t.ppu.status
      v := t.ppu.v
      t := t.ppu.t
      fineX := t.ppu.fineX
      w := t.ppu.w
      dataBuffer := t.ppu.dataBuffer
      oamAddr := t.ppu.oamAddr
      nametable := t.ppu.nametable
      palette := t.ppu.palette
      oam := t.ppu.oam } ∧
    (t.ppu.status = s.ppu.status ∨ t.ppu.status = s.ppu.status &&& 0x7F)

/-! ### The clock -/

/-- A step runs the decoded instruction: at an Idle CPU clock with no IRQ taken, when the bytes read in order from the PC
(each with its read's side effects, after this tick's PPU clock) decode to `i`, the step is `exec i` with the PC past the
bytes fetched, then the count down and the end of the tick (40_cycle_and_addressing.md R170 to R172, R175, 20_memory.md R133). A
count of 0 stays 0 by the model's choice (log entry 17). -/
def Obligations.StepRunsDecodedInstruction : Prop :=
  ∀ (s t : State) (i : Instr) (rest : List Byte), s.canClock = true → s.fault = none → s.tick % 3 = 0 →
    let u := { s with ppu := ppuClock s.cart s.ppu }
    let b₀ := memRead u.cpu.pc u
    let b₁ := memRead (u.cpu.pc + 1) b₀.2
    let b₂ := memRead (u.cpu.pc + 2) b₁.2
    let fetched := if fetchedBytes i = 1 then b₀.2 else if fetchedBytes i = 2 then b₁.2 else b₂.2
    u.cpu.cycles = 0 → ¬ (irqAsserted u.params.irqLine u.tick = true ∧ u.flag .interruptDisable = false) →
    decode [b₀.1, b₁.1, b₂.1] = some (i, rest) →
    exec i { fetched with
      cpu := { u.cpu with pc := u.cpu.pc + BitVec.ofNat 16 (fetchedBytes i), p := u.cpu.p ||| 0x20 } } = .next t →
    step s = .next (endTick { t with cpu := { t.cpu with cycles := t.cpu.cycles - 1 } })

/-- An opcode that does not decode stops the machine: the fault is recorded with the opcode and its address, the PC is past
the opcode byte, and the rest of the tick does not run (30_encoding.md R154, 60_exceptions.md R310, 61_system_clock.md R341).
That the step which records the fault answers a next state is the model's reading (log entry 9). -/
def Obligations.IllegalOpcodeStopsTheMachine : Prop :=
  ∀ s : State, s.canClock = true → s.fault = none → s.tick % 3 = 0 →
    let u := { s with ppu := ppuClock s.cart s.ppu }
    let b := memRead u.cpu.pc u
    u.cpu.cycles = 0 → ¬ (irqAsserted u.params.irqLine u.tick = true ∧ u.flag .interruptDisable = false) →
    b.1 ∈ illegalOpcodes →
    step s = .next { b.2 with
      cpu := { u.cpu with pc := u.cpu.pc + 1, p := u.cpu.p ||| 0x20 }
      fault := some (.illegalOpcode b.1 u.cpu.pc) }

/-- The other clocks of the CPU: while it is Executing its count goes down by one, and on the two ticks of three on which it
is not clocked it does nothing; the PPU is clocked first and the tick ends as always
(40_cycle_and_addressing.md R170, 61_system_clock.md R341, R342). -/
def Obligations.OtherTicksOnlyCountDown : Prop :=
  ∀ s : State, s.canClock = true → s.fault = none →
    let u := { s with ppu := ppuClock s.cart s.ppu }
    (s.tick % 3 ≠ 0 → step s = .next (endTick u)) ∧
    (s.tick % 3 = 0 → 0 < s.cpu.cycles →
      step s = .next (endTick { u with cpu := { u.cpu with cycles := u.cpu.cycles - 1 } }))

/-- The end of a tick: a pending NMI request is taken back and the NMI entered, whatever the CPU was doing, and the tick is
counted (61_system_clock.md R341, R343, 60_exceptions.md R314, R316). -/
def Obligations.EndOfTickDeliversNmi : Prop :=
  ∀ s : State,
    (s.ppu.nmiRequest = true →
      endTick s =
        { interrupted 0xFFFA s.params.nmiCycles { s with ppu := { s.ppu with nmiRequest := false } } with
          tick := s.tick + 1 }) ∧
    (s.ppu.nmiRequest = false → endTick s = { s with tick := s.tick + 1 })

/-- At scanline 241 cycle 1 with NMI enabled, a tick that does not clock the CPU enters the NMI: vblank is set, no request is
left pending (62_ppu.md R388, 61_system_clock.md R343, 60_exceptions.md R312). -/
def Obligations.NmiAtVblankStart : Prop :=
  ∀ s : State, s.canClock = true → s.fault = none → s.tick % 3 ≠ 0 → s.ppu.scanline = 241 → s.ppu.cycle = 1 →
    s.ppu.ctrl.getLsbD 7 = true →
    step s = .next { interrupted 0xFFFA s.params.nmiCycles s with
      ppu := { s.ppu with status := s.ppu.status ||| 0x80, nmiRequest := false, cycle := 2 }
      tick := s.tick + 1 }

/-- At an Idle CPU clock with the IRQ line asserted and I clear, the IRQ is entered instead of an instruction, and its first
clock counts (40_cycle_and_addressing.md R170, 60_exceptions.md R314, R315, 61_system_clock.md R344). A count of 0 stays 0 by
the model's choice (log entry 17). -/
def Obligations.IrqEnteredWhenIdle : Prop :=
  ∀ s : State, s.canClock = true → s.fault = none → s.tick % 3 = 0 → s.cpu.cycles = 0 →
    irqAsserted s.params.irqLine s.tick = true → s.flag .interruptDisable = false →
    step s = .next (endTick
      (interrupted 0xFFFE (s.params.irqCycles - 1) { s with ppu := ppuClock s.cart s.ppu }))

/-- A step never faults, and is refused exactly while the machine is not ready with a valid cartridge and its mapper
(61_system_clock.md R341, 63_cartridge.md R434, R435, 70_reset_and_hazards.md R466). That an illegal opcode is recorded in a
next state and is no outcome of its own is the model's reading (log entry 9). -/
def Obligations.ClockRefusedExactlyWhenNotReady : Prop :=
  ∀ s : State,
    (step s = .refused .notReady ↔ ¬ (s.ready = true ∧ s.cart.valid = true ∧ s.cart.mapperId = 0#8 ∧
      (s.cart.prgBanks = 1#8 ∨ s.cart.prgBanks = 2#8) ∧ (s.cart.chrBanks = 0#8 ∨ s.cart.chrBanks = 1#8))) ∧
    (step s ≠ .refused .notReady → ∃ t, step s = .next t)

/-- A faulted machine changes no more, not by a clock, and its fault survives Reset
(10_state.md R47, 60_exceptions.md R310, 70_reset_and_hazards.md R460). -/
def Obligations.FaultedMachineStays : Prop :=
  ∀ (s : State) (f : Fault), s.fault = some f →
    (∀ t, step s = .next t → t = s) ∧ (∀ t, systemReset s = .next t → t.fault = some f)

/-! ### The CPU bus -/

/-- CPU reads under mapper 000: RAM and its mirrors, the register mirrors, open bus, PRG by the bank count
(20_memory.md R104, R107, R108, R113, R116, 63_cartridge.md R437). -/
def Obligations.CpuReadMap : Prop :=
  ∀ (a : Word) (s : State), s.cart.mapper.isSome = true →
    (a.toNat ≤ 0x1FFF → memRead a s = (s.ram.read (a.toNat % 2048), s)) ∧
    (0x2000 ≤ a.toNat → a.toNat ≤ 0x3FFF → memRead a s = memRead (BitVec.ofNat 16 (0x2000 + a.toNat % 8)) s) ∧
    (0x4000 ≤ a.toNat → a.toNat ≤ 0x7FFF → a.toNat ≠ 0x4016 → a.toNat ≠ 0x4017 → memRead a s = (0x00, s)) ∧
    (0x8000 ≤ a.toNat → s.cart.prgBanks = 1#8 → memRead a s = (s.cart.prg.read (a.toNat % 16384), s)) ∧
    (0x8000 ≤ a.toNat → s.cart.prgBanks = 2#8 → memRead a s = (s.cart.prg.read (a.toNat % 32768), s))

/-- CPU writes under mapper 000: RAM and its mirrors, the register mirrors, open bus and PRG discarded
(20_memory.md R105, R107, R108, R113, R115, 63_cartridge.md R438). -/
def Obligations.CpuWriteMap : Prop :=
  ∀ (a : Word) (v : Byte) (s : State), s.cart.mapper.isSome = true →
    (a.toNat ≤ 0x1FFF → memWrite a v s = { s with ram := s.ram.write (a.toNat % 2048) v }) ∧
    (0x2000 ≤ a.toNat → a.toNat ≤ 0x3FFF → memWrite a v s = memWrite (BitVec.ofNat 16 (0x2000 + a.toNat % 8)) v s) ∧
    (0x4000 ≤ a.toNat → a.toNat ≠ 0x4014 → a.toNat ≠ 0x4016 → a.toNat ≠ 0x4017 → memWrite a v s = s)

/-- A RAM byte written reads back at every mirror of it, every other RAM byte is as before, and the memories keep their
canonical form (20_memory.md R107, R130, 10_state.md R65). -/
def Obligations.RamReadsWhatWasWritten : Prop :=
  ∀ (a b : Word) (v : Byte) (s : State), s.memoryOk = true → a.toNat ≤ 0x1FFF → b.toNat ≤ 0x1FFF →
    (memRead b (memWrite a v s)).1 = (if a.toNat % 2048 = b.toNat % 2048 then v else (memRead b s).1) ∧
    (memWrite a v s).memoryOk = true

/-- A write to 0x4014 copies a page of RAM to OAM, whatever `oam_addr`, and collects the stall of the tick's parity; nothing
else changes (20_memory.md R109, R110). -/
def Obligations.OamDmaCopiesAPageOfRam : Prop :=
  ∀ (page : Byte) (s : State), s.memoryOk = true →
    ∃ oam : Memory, (∀ i, i < 256 → oam.read i = s.ram.read ((page.toNat * 256 + i) % 2048)) ∧
      memWrite 0x4014 page s = { s with
        ppu := { s.ppu with oam := oam }
        cpu := { s.cpu with scratch := { s.cpu.scratch with dmaExtra := s.cpu.scratch.dmaExtra + stallOf 0x4014 s } } }

/-- The controller ports: a write latches the live buttons and sets the strobe; a read returns bit 0 with the open-bus byte and
shifts, or reloads while the strobe is high (20_memory.md R111, R112, 10_state.md R66). -/
def Obligations.ControllerPorts : Prop :=
  ∀ (v : Byte) (s : State),
    let latch := fun (c : Port) => { c with strobe := v.getLsbD 0, shift := c.live }
    let shifted := fun (c : Port) => BitVec.ofNat 8 (c.shift.toNat / 2 + 128 * s.params.ctrlFill.toNat)
    memWrite 0x4016 v s = { s with port1 := latch s.port1 } ∧
    memWrite 0x4017 v s = { s with port2 := latch s.port2 } ∧
    (s.port1.strobe = true → memRead 0x4016 s =
      ((s.port1.live &&& 1) ||| s.params.ctrlOpenBus, { s with port1 := { s.port1 with shift := s.port1.live } })) ∧
    (s.port1.strobe = false → memRead 0x4016 s =
      ((s.port1.shift &&& 1) ||| s.params.ctrlOpenBus, { s with port1 := { s.port1 with shift := shifted s.port1 } })) ∧
    (s.port2.strobe = true → memRead 0x4017 s =
      ((s.port2.live &&& 1) ||| s.params.ctrlOpenBus, { s with port2 := { s.port2 with shift := s.port2.live } })) ∧
    (s.port2.strobe = false → memRead 0x4017 s =
      ((s.port2.shift &&& 1) ||| s.params.ctrlOpenBus, { s with port2 := { s.port2 with shift := shifted s.port2 } }))

/-! ### PPU ports -/

/-- CPU writes to the PPU's registers, at every mirror (20_memory.md R108, 62_ppu.md R360 to R362, R364 to R367, R369, R370). -/
def Obligations.PpuPortWrites : Prop :=
  ∀ (a : Word) (d : Byte) (s : State), 0x2000 ≤ a.toNat → a.toNat ≤ 0x3FFF →
    let p := s.ppu
    let r := a.toNat % 8
    (r = 0 → ∃ t' : Word, (∀ i, i < 16 →
        t'.getLsbD i = if i = 10 then d.getLsbD 0 else if i = 11 then d.getLsbD 1 else p.t.getLsbD i) ∧
      memWrite a d s = { s with ppu := { p with ctrl := d, t := t' } }) ∧
    (r = 1 → memWrite a d s = { s with ppu := { p with mask := d } }) ∧
    (r = 2 → memWrite a d s = s) ∧
    (r = 3 → memWrite a d s = { s with ppu := { p with oamAddr := d } }) ∧
    (r = 4 → memWrite a d s =
      { s with ppu := { p with oam := p.oam.write p.oamAddr.toNat d, oamAddr := BitVec.ofNat 8 (p.oamAddr.toNat + 1) } }) ∧
    (r = 5 → p.w = false → ∃ t' : Word, (∀ i, i < 16 →
        t'.getLsbD i = if i < 5 then d.getLsbD (i + 3) else p.t.getLsbD i) ∧
      memWrite a d s = { s with ppu := { p with fineX := BitVec.ofNat 3 d.toNat, t := t', w := true } }) ∧
    (r = 5 → p.w = true → ∃ t' : Word, (∀ i, i < 16 →
        t'.getLsbD i = if 5 ≤ i ∧ i < 10 then d.getLsbD (i - 2) else if 12 ≤ i ∧ i < 15 then d.getLsbD (i - 12)
          else p.t.getLsbD i) ∧
      memWrite a d s = { s with ppu := { p with t := t', w := false } }) ∧
    (r = 6 → p.w = false →
      memWrite a d s =
        { s with ppu := { p with t := BitVec.ofNat 16 (p.t.toNat % 256 + 256 * (d.toNat % 64)), w := true } }) ∧
    (r = 6 → p.w = true →
      let t' : Word := BitVec.ofNat 16 (p.t.toNat / 256 * 256 + d.toNat)
      memWrite a d s = { s with ppu := { p with t := t', v := t', w := false } }) ∧
    (r = 7 → memWrite a d s =
      { s with
        cart := (ppuWrite s.cart p p.v d).1
        ppu := { (ppuWrite s.cart p p.v d).2 with v := p.v + dataStep p } })

/-- CPU reads of the PPU's registers, at every mirror: Status clears vblank and the write toggle; VRAM data is read ahead by
one below the palette and at once in it; every other port changes nothing
(20_memory.md R114, 62_ppu.md R360, R363, R365, R368, R370). -/
def Obligations.PpuPortReads : Prop :=
  ∀ (a : Word) (s : State), 0x2000 ≤ a.toNat → a.toNat ≤ 0x3FFF →
    let p := s.ppu
    let r := a.toNat % 8
    let here := ppuRead s.cart p p.v
    (r = 0 ∨ r = 1 ∨ r = 3 ∨ r = 5 ∨ r = 6 → memRead a s = (0x00, s)) ∧
    (r = 2 → ∃ status d : Byte,
      (∀ i, i < 8 → status.getLsbD i = (decide (i ≠ 7) && p.status.getLsbD i)) ∧
      (∀ i, i < 8 → d.getLsbD i = (decide (5 ≤ i) && p.status.getLsbD i)) ∧
      memRead a s = (d, { s with ppu := { p with status := status, w := false } })) ∧
    (r = 4 → memRead a s = (p.oam.read p.oamAddr.toNat, s)) ∧
    (r = 7 → memRead a s =
      (if 0x3F00 ≤ p.v.toNat % 0x4000 then here else p.dataBuffer,
        { s with ppu := { p with dataBuffer := here, v := p.v + dataStep p } }))

/-- The PPU's address space under mapper 000: 14 bits; CHR, written only when it is RAM; the nametables folded by the
mirroring; the palette with its four hard mirrors (20_memory.md R120 to R126, 63_cartridge.md R439, R440). -/
def Obligations.PpuAddressSpace : Prop :=
  ∀ (c : Cart) (p : Ppu) (a : Word) (v : Byte), c.mapper.isSome = true →
    let n := a.toNat % 16384
    (n ≤ 0x1FFF → ppuRead c p a = c.chr.read n ∧
      ppuWrite c p a v = (if c.chrBanks = 0#8 then { c with chr := c.chr.write n v } else c, p)) ∧
    (0x2000 ≤ n → n ≤ 0x3EFF → ppuRead c p a = p.nametable.read (nametableCell c.mirroring n) ∧
      ppuWrite c p a v = (c, { p with nametable := p.nametable.write (nametableCell c.mirroring n) v })) ∧
    (0x3F00 ≤ n → ppuRead c p a = p.palette.read (paletteCell n) ∧
      ppuWrite c p a v = (c, { p with palette := p.palette.write (paletteCell n) v }))

/-! ### The PPU's clock -/

/-- The scroll operations by the fields of `v` and `t` (10_state.md R53, 62_ppu.md R379 to R382). -/
def Obligations.ScrollOperationsByField : Prop :=
  ∀ v t : Word,
    let cx := v.toNat % 32
    let cy := v.toNat / 32 % 32
    let fy := v.toNat / 4096 % 8
    ((incX v).toNat % 32 = (cx + 1) % 32 ∧
      ∀ i, 5 ≤ i → i < 16 → (incX v).getLsbD i = (v.getLsbD i != (decide (i = 10) && decide (cx = 31)))) ∧
    ((incY v).toNat / 4096 % 8 = (fy + 1) % 8 ∧
      (incY v).toNat / 32 % 32 = (if fy < 7 then cy else if cy = 29 ∨ cy = 31 then 0 else cy + 1) ∧
      ∀ i, i < 16 → (i < 5 ∨ i = 10 ∨ i = 11 ∨ i = 15) →
        (incY v).getLsbD i = (v.getLsbD i != (decide (i = 11) && decide (fy = 7) && decide (cy = 29)))) ∧
    (∀ i, i < 16 → (transferX v t).getLsbD i = if i < 5 ∨ i = 10 then t.getLsbD i else v.getLsbD i) ∧
    (∀ i, i < 16 → (transferY v t).getLsbD i =
      if (5 ≤ i ∧ i < 10) ∨ i = 11 ∨ (12 ≤ i ∧ i < 15) then t.getLsbD i else v.getLsbD i)

/-- When a PPU clock moves `v`: only on lines -1 to 239 and only while rendering, at sub-phase 7 of a window, at cycle 256,
at cycle 257, and on the pre-render line at cycles 280 to 304. No clock on any line touches `t`, Control, Mask, fine X, the
write toggle, the data buffer, the OAM address, the nametables, the palette or OAM
(62_ppu.md R372, R379 to R382, R395, 20_memory.md R126). -/
def Obligations.ClockMovesTheScroll : Prop :=
  ∀ (c : Cart) (p : Ppu), (¬ (OnFetchLine p ∧ Renders p) → (ppuClock c p).v = p.v) ∧
    (OnFetchLine p → Renders p →
      (inWindow p → phaseOf p = 7 → p.cycle ≠ 256 → (ppuClock c p).v = incX p.v) ∧
      (p.cycle = 256 → (ppuClock c p).v = incY (incX p.v)) ∧
      (p.cycle = 257 → (ppuClock c p).v = transferX p.v p.t) ∧
      (p.scanline = -1 → 280 ≤ p.cycle → p.cycle ≤ 304 → (ppuClock c p).v = transferY p.v p.t) ∧
      (¬ (inWindow p ∧ phaseOf p = 7) → p.cycle ≠ 257 → ¬ (p.scanline = -1 ∧ 280 ≤ p.cycle ∧ p.cycle ≤ 304) →
        (ppuClock c p).v = p.v)) ∧
    (ppuClock c p).t = p.t ∧ (ppuClock c p).ctrl = p.ctrl ∧ (ppuClock c p).mask = p.mask ∧
    (ppuClock c p).fineX = p.fineX ∧ (ppuClock c p).w = p.w ∧ (ppuClock c p).dataBuffer = p.dataBuffer ∧
    (ppuClock c p).oamAddr = p.oamAddr ∧ (ppuClock c p).nametable = p.nametable ∧ (ppuClock c p).palette = p.palette ∧
    (ppuClock c p).oam = p.oam

/-- The background pipeline: inside a window the four shifters move and are loaded at sub-phase 0, and each fetch latch is
read at its sub-phase from the rules' address; outside one they stay
(62_ppu.md R374 to R378, R383, R396). -/
def Obligations.BackgroundPipeline : Prop :=
  ∀ (c : Cart) (p : Ppu),
    let n := ppuClock c p
    let cx := p.v.toNat % 32
    let cy := p.v.toNat / 32 % 32
    let row := (p.ctrl.getLsbD 4).toNat * 4096 + p.bgNextId.toNat * 16 + p.v.toNat / 4096 % 8
    (OnFetchLine p → inWindow p →
      n.bgShiftPatLo = shifterAfter p p.bgShiftPatLo p.bgNextLo ∧
      n.bgShiftPatHi = shifterAfter p p.bgShiftPatHi p.bgNextHi ∧
      n.bgShiftAttrLo = shifterAfter p p.bgShiftAttrLo (spread (p.bgNextAttr.getLsbD 0)) ∧
      n.bgShiftAttrHi = shifterAfter p p.bgShiftAttrHi (spread (p.bgNextAttr.getLsbD 1)) ∧
      n.bgNextId = (if phaseOf p = 0 then ppuRead c p (BitVec.ofNat 16 (0x2000 + p.v.toNat % 4096)) else p.bgNextId) ∧
      n.bgNextAttr = (if phaseOf p = 2 then
          (ppuRead c p (BitVec.ofNat 16 (0x23C0 + p.v.toNat / 1024 % 4 * 1024 + cy / 4 * 8 + cx / 4)) >>>
            (4 * (cy / 2 % 2) + 2 * (cx / 2 % 2))) &&& 0x03
        else p.bgNextAttr) ∧
      n.bgNextLo = (if phaseOf p = 4 then ppuRead c p (BitVec.ofNat 16 row) else p.bgNextLo) ∧
      n.bgNextHi = (if phaseOf p = 6 then ppuRead c p (BitVec.ofNat 16 (row + 8)) else p.bgNextHi)) ∧
    (¬ (OnFetchLine p ∧ inWindow p) →
      n.bgShiftPatLo = p.bgShiftPatLo ∧ n.bgShiftPatHi = p.bgShiftPatHi ∧ n.bgShiftAttrLo = p.bgShiftAttrLo ∧
      n.bgShiftAttrHi = p.bgShiftAttrHi ∧ n.bgNextId = p.bgNextId ∧ n.bgNextAttr = p.bgNextAttr ∧
      n.bgNextLo = p.bgNextLo ∧ n.bgNextHi = p.bgNextHi)

/-- Sprite evaluation: the first eight OAM entries in range, in OAM order, fill the list; a ninth sets overflow; sprite zero is
possible exactly when entry 0 is in range (62_ppu.md R384). -/
def Obligations.SpriteEvaluationFindsTheFirstEight : Prop :=
  ∀ p : Ppu, p.slots.length = 8 →
    let hits := entriesInRange p
    let q := spriteEval p
    q.spriteCount = min 8 hits.length ∧
    q.spriteZeroPossible = decide (0 ∈ hits) ∧
    q.status = (if 8 < hits.length then p.status ||| 0x20 else p.status) ∧
    (∀ k n, k < 8 → hits[k]? = some n → q.slots[k]? = some {
      y := p.oam.read (4 * n)
      tile := p.oam.read (4 * n + 1)
      attr := p.oam.read (4 * n + 2)
      x := p.oam.read (4 * n + 3)
      shiftLo := 0
      shiftHi := 0 }) ∧
    (∀ k sp, hits.length ≤ k → p.slots[k]? = some sp → q.slots[k]? = some { sp with shiftLo := 0, shiftHi := 0 }) ∧
    q.slots.length = 8 ∧
    q = { p with
      spriteCount := q.spriteCount
      spriteZeroPossible := q.spriteZeroPossible
      status := q.status
      slots := q.slots }

/-- The sprite shifters' load: both pattern bytes of each listed sprite's row, from the rules' CHR address, mirrored under a
horizontal flip; slots past the list stay (62_ppu.md R385, R386). -/
def Obligations.SpriteShiftersLoadPatternRows : Prop :=
  ∀ (c : Cart) (p : Ppu) (k row : Nat) (sp : SpriteSlot), c.mapper.isSome = true → p.slots[k]? = some sp →
    (k < p.spriteCount → p.scanline - sp.y.toNat = row → row < (if p.ctrl.getLsbD 5 = true then 16 else 8) →
      ∃ lo hi : Byte, FlippedIs (sp.attr.getLsbD 6) (c.chr.read (spriteAddress p sp row)) lo ∧
        FlippedIs (sp.attr.getLsbD 6) (c.chr.read (spriteAddress p sp row + 8)) hi ∧
        (loadSpriteShifters c p).slots[k]? = some { sp with shiftLo := lo, shiftHi := hi }) ∧
    (p.spriteCount ≤ k → (loadSpriteShifters c p).slots[k]? = some sp)

/-- When a PPU clock touches the sprite list: on visible lines, cycles 2 to 256 count down or shift each listed sprite, cycle
257 evaluates and loads; the other clocks leave it, but for the pre-render clear
(62_ppu.md R372, R373, R384, R385, R387). -/
def Obligations.ClockWorksTheSpriteList : Prop :=
  ∀ (c : Cart) (p : Ppu),
    let n := ppuClock c p
    let visible := 0 ≤ p.scanline ∧ p.scanline ≤ 239
    (visible → 2 ≤ p.cycle → p.cycle ≤ 256 → n.spriteCount = p.spriteCount ∧
      n.spriteZeroPossible = p.spriteZeroPossible ∧
      ∀ k sp, p.slots[k]? = some sp → n.slots[k]? = some
        (if p.spriteCount ≤ k then sp
        else if 0 < sp.x.toNat then { sp with x := BitVec.ofNat 8 (sp.x.toNat - 1) }
        else { sp with
          shiftLo := BitVec.ofNat 8 (sp.shiftLo.toNat * 2)
          shiftHi := BitVec.ofNat 8 (sp.shiftHi.toNat * 2) })) ∧
    (visible → p.cycle = 257 →
      let q := loadSpriteShifters c (spriteEval (updateSprites p))
      n.spriteCount = q.spriteCount ∧ n.spriteZeroPossible = q.spriteZeroPossible ∧ n.slots = q.slots ∧
        n.status = q.status) ∧
    (p.scanline = -1 → p.cycle = 1 → n.spriteCount = 0 ∧ n.spriteZeroPossible = false ∧
      n.slots = p.slots.map (fun sp => { sp with shiftLo := 0, shiftHi := 0 })) ∧
    (¬ (visible ∧ 2 ≤ p.cycle ∧ p.cycle ≤ 257) → ¬ (p.scanline = -1 ∧ p.cycle = 1) →
      n.spriteCount = p.spriteCount ∧ n.spriteZeroPossible = p.spriteZeroPossible ∧ n.slots = p.slots)

/-- Vblank: set, with an NMI request when enabled, by the clock at scanline 241 cycle 1 and by no other; cleared with the other
flags by the clock at scanline -1 cycle 1; lines 240 to 260 do nothing else but count. Status changes at no other clock but
those that draw a pixel and the evaluation at cycle 257 of a visible line, the sprite-zero note only where a pixel is drawn
(62_ppu.md R372, R373, R384, R388, R390, R396, 10_state.md R52). -/
def Obligations.VblankStartsAndEnds : Prop :=
  ∀ (c : Cart) (p : Ppu),
    let n := ppuClock c p
    (p.scanline = 241 → p.cycle = 1 →
      n = { p with status := p.status ||| 0x80, nmiRequest := p.nmiRequest || p.ctrl.getLsbD 7, cycle := 2 }) ∧
    (p.scanline = -1 → p.cycle = 1 → n.status = p.status &&& 0x1F) ∧
    (240 ≤ p.scanline → p.scanline ≤ 260 → ¬ (p.scanline = 241 ∧ p.cycle = 1) →
      n = { p with cycle := n.cycle, scanline := n.scanline, frameComplete := n.frameComplete }) ∧
    (¬ (p.scanline = 241 ∧ p.cycle = 1) → n.nmiRequest = p.nmiRequest ∧
      (n.status.getLsbD 7 = true → p.status.getLsbD 7 = true)) ∧
    (¬ (p.scanline = 241 ∧ p.cycle = 1) → ¬ (p.scanline = -1 ∧ p.cycle = 1) → ¬ OnPixel p →
      ¬ (0 ≤ p.scanline ∧ p.scanline ≤ 239 ∧ p.cycle = 257) → n.status = p.status) ∧
    (¬ OnPixel p → n.spriteZeroRendering = p.spriteZeroRendering)

/-- A clock at cycle 1 to 256 of a visible line writes its pixel and no other frame cell: background and foreground merged,
the colour looked up through the palette's mirrors; every other clock leaves the frame
(62_ppu.md R389 to R391, R393). -/
def Obligations.PixelIsWritten : Prop :=
  ∀ (c : Cart) (p : Ppu), c.mapper.isSome = true →
    (OnPixel p →
      let q := fetchLineWork c p
      let out := mergedOf q
      (ppuClock c p).frame = frameWrite p.frame (p.scanline.toNat * 256 + (p.cycle - 1))
        (Config.systemPalette (BitVec.ofNat 6 (p.palette.read (paletteCell (out.2 * 4 + out.1))).toNat))) ∧
    (¬ OnPixel p → (ppuClock c p).frame = p.frame)

/-- Sprite-zero hit: set by a pixel clock at which sprite zero's opaque pixel lies on an opaque background pixel, from cycle 9,
or from cycle 1 with both left-8 bits set; a clock sets it at no other place
(62_ppu.md R390 to R392). -/
def Obligations.SpriteZeroHit : Prop :=
  ∀ (c : Cart) (p : Ppu),
    (OnPixel p →
      let q := fetchLineWork c p
      let zero := decide (foregroundSlot q = some 0)
      (ppuClock c p).spriteZeroRendering = zero ∧
      (ppuClock c p).status = p.status |||
        (if (backgroundOf q).1 ≠ 0 ∧ zero = true ∧ p.spriteZeroPossible = true ∧
            (if p.mask.getLsbD 1 = true ∧ p.mask.getLsbD 2 = true then 1 else 9) ≤ p.cycle then 0x40 else 0x00)) ∧
    (¬ OnPixel p → (ppuClock c p).status.getLsbD 6 = true → p.status.getLsbD 6 = true)

/-- The frame is 341 x 262 clocks, without a skipped one: each clock moves the position by one, wrapping from the end of line
260 to the start of line -1, which sets `frame_complete` (62_ppu.md R371, R394). -/
def Obligations.FrameIs89342Clocks : Prop :=
  ∀ (c : Cart) (p : Ppu) (k : Nat), CountersOk p →
    let n := (ppuClock c)^[k] p
    CountersOk n ∧ framePosition n = (framePosition p + k) % 89342 ∧
    (n.frameComplete = true ↔ p.frameComplete = true ∨ 89342 ≤ framePosition p + k)

/-! ### Cartridge, reset, host -/

/-- LoadCartridge: the header decoded, the trainer skipped, PRG and CHR taken from the image, CHR-RAM from `MEM_INIT`; a
truncated header or body makes the cartridge invalid; `ready` is dropped; a mapper exists for id 0 with supported bank counts
only; an invalid image and an unsupported id or bank count are each reported. The spec says only that an unsupported id or bank
count is reported (61_system_clock.md R348, 63_cartridge.md R435): the form of the report, a report of an invalid image
and of a load that succeeded among it, and the numbers it carries, are the model's choice (log entry 16)
(63_cartridge.md R430 to R435, 61_system_clock.md R348, 70_reset_and_hazards.md R465, 00_scope.md R8). A byte past the image's end reads 0 here, and no clause rests on
one. -/
def Obligations.LoadCartridgeBuildsTheCartridge : Prop :=
  ∀ (image : List Byte) (s : State),
    let report := (loadCartridge image s).1
    let t := (loadCartridge image s).2
    let b := fun k => image.getD k 0
    let start := 16 + (if (b 6).getLsbD 2 = true then 512 else 0)
    let prgSize := (b 4).toNat * 16384
    let chrSize := (b 5).toNat * 8192
    t = { s with cart := t.cart, ready := false } ∧
    (t.cart.valid = true ↔ 16 ≤ image.length ∧ start + prgSize + chrSize ≤ image.length) ∧
    (t.cart.valid = true →
      t.cart.mapperId = (b 7 &&& 0xF0) ||| (b 6 >>> 4) ∧ t.cart.prgBanks = b 4 ∧ t.cart.chrBanks = b 5 ∧
      t.cart.mirroring = (if (b 6).getLsbD 0 = true then .vertical else .horizontal) ∧
      (∀ k, k < prgSize → t.cart.prg.read k = b (start + k)) ∧
      (∀ k, k < chrSize → t.cart.chr.read k = b (start + prgSize + k)) ∧
      (b 5 = 0#8 → t.cart.chr = s.params.memInit.chrRam) ∧
      (t.cart.mapper.isSome = true ↔
        t.cart.mapperId = 0#8 ∧ (b 4 = 1#8 ∨ b 4 = 2#8) ∧ (b 5 = 0#8 ∨ b 5 = 1#8))) ∧
    report = (if t.cart.valid = false then .invalidImage
      else if t.cart.mapper = none then .unsupportedMapper ((b 7 &&& 0xF0) ||| (b 6 >>> 4)) (b 4) (b 5)
      else .loaded)

/-- Reset(): every register, latch and counter at the rules' value, the PC from the reset vector, the memories, the cartridge
and a recorded fault kept; refused without a valid cartridge and mapper
(70_reset_and_hazards.md R460 to R463, R466, 10_state.md R61, R70). The two collected counts of the scratch values at 0 are the
model's choice (log entry 10), and so are the Y, tile and attribute bytes of the sprite entries kept, to which the spec gives
no reset value (log entry 19), and the two names under which it is refused (log entry 16). -/
def Obligations.SystemResetSetsEveryRegister : Prop :=
  ∀ s : State,
    (s.cart.mapper.isSome = true → systemReset s = .next {
      cpu := {
        a := 0
        x := 0
        y := 0
        sp := 0xFD
        pc := vectorWord s 0xFFFC
        p := 0x20
        cycles := s.params.resetCycles
        scratch := { opcode := 0, addrAbs := 0, addrRel := 0, fetched := 0, dmaExtra := 0, branchExtra := 0 } }
      ppu := {
        ctrl := 0
        mask := 0
        status := 0
        v := 0
        t := 0
        fineX := 0
        w := false
        dataBuffer := 0
        oamAddr := 0
        bgNextId := 0
        bgNextAttr := 0
        bgNextLo := 0
        bgNextHi := 0
        bgShiftPatLo := 0
        bgShiftPatHi := 0
        bgShiftAttrLo := 0
        bgShiftAttrHi := 0
        spriteCount := 0
        slots := s.ppu.slots.map (fun sp => { sp with x := 0, shiftLo := 0, shiftHi := 0 })
        spriteZeroPossible := false
        spriteZeroRendering := false
        scanline := -1
        cycle := 0
        nmiRequest := false
        frameComplete := false
        nametable := s.ppu.nametable
        palette := s.ppu.palette
        oam := s.ppu.oam
        frame := s.ppu.frame }
      cart := s.cart
      ram := s.ram
      port1 := { live := 0, shift := 0, strobe := false }
      port2 := { live := 0, shift := 0, strobe := false }
      tick := 0
      fault := s.fault
      ready := true
      params := s.params }) ∧
    (s.cart.valid = false → systemReset s = .refused .noCartridge) ∧
    (s.cart.valid = true → s.cart.mapper = none → systemReset s = .refused .noMapper)

/-- The other host calls: SetController sets one port's live buttons and is refused for another port; the frame-complete flag
is read and cleared; ReadFrame gives the cells the pixel step writes
(61_system_clock.md R347 to R350, 70_reset_and_hazards.md R466). -/
def Obligations.HostCalls : Prop :=
  ∀ (port : Nat) (mask : Byte) (s : State) (y x : Nat) (c : Colour),
    (port = 1 → setController port mask s = .next { s with port1 := { s.port1 with live := mask } }) ∧
    (port = 2 → setController port mask s = .next { s with port2 := { s.port2 with live := mask } }) ∧
    (port ≠ 1 → port ≠ 2 → setController port mask s = .refused (.noSuchPort port)) ∧
    readFrameComplete s = s.ppu.frameComplete ∧
    clearFrameComplete s = { s with ppu := { s.ppu with frameComplete := false } } ∧
    (s.memoryOk = true → x < 256 → ∀ y' x', x' < 256 →
      readFrame { s with ppu := { s.ppu with frame := frameWrite s.ppu.frame (y * 256 + x) c } } y' x' =
        if y' = y ∧ x' = x then c else readFrame s y' x')

/-! ### The whole machine -/

/-- Every step keeps the machine sound: the memories canonical and in their sizes, U 1 and B 0, the PPU's counters, sprite list
and reserved bits in their ranges, no NMI request left pending
(10_state.md R36, R41, R52, R58, R60, R62, R64, R65, R68, 61_system_clock.md R343). -/
def Obligations.StepKeepsInvariant : Prop :=
  ∀ s t : State, s.Inv → step s = .next t → t.Inv

/-- The host's operations keep the machine sound too: a load of any image, Reset(), the controller and frame-complete calls
(10_state.md R64, R65, R68, 61_system_clock.md R348). -/
def Obligations.HostOperationsKeepInvariant : Prop :=
  ∀ s t : State, s.Inv →
    (∀ image, (loadCartridge image s).2.Inv) ∧ (systemReset s = .next t → t.Inv) ∧
    (∀ port mask, setController port mask s = .next t → t.Inv) ∧ (clearFrameComplete s).Inv

/-- Under any parameters, whatever bytes `MEM_INIT` draws, the state after the first reset is sound, holds those bytes, and is
what Reset() of it answers; `State.reset` is that state at the default parameters. The blank cartridge and the one draw of the
default are the model's choice (log entries 2, 3). -/
def Obligations.ResetMeetsInvariant : Prop :=
  State.reset = State.powerOn Params.default ∧
  ∀ params : Params,
    let s := State.powerOn params
    (memInitOk params.memInit = true → s.Inv) ∧ systemReset s = .next s ∧ s.canClock = true ∧
    s.ram = params.memInit.ram ∧ s.ppu.nametable = params.memInit.nametable ∧ s.ppu.palette = params.memInit.palette ∧
    s.ppu.oam = params.memInit.oam

/-- No step writes PRG, the cartridge's header, CHR-ROM, the parameters, the live buttons or `ready`, or clears a fault
(10_state.md R47, R66, R68, R69, 63_cartridge.md R436, R441). -/
def Obligations.StepKeepsProgramAndParameters : Prop :=
  ∀ s t : State, step s = .next t →
    t.cart = { s.cart with chr := t.cart.chr } ∧ (s.cart.chrBanks ≠ 0#8 → t.cart.chr = s.cart.chr) ∧
    t.params = s.params ∧ t.ready = s.ready ∧ t.port1.live = s.port1.live ∧ t.port2.live = s.port2.live ∧
    (∀ f, s.fault = some f → t.fault = some f)

/-- Vblank is set, and an NMI taken by a machine whose CPU is not clocked, only at scanline 241 cycle 1: a step from any other
position sets neither (62_ppu.md R388, 61_system_clock.md R343, R351). -/
def Obligations.VblankOnlyAtItsClock : Prop :=
  ∀ s t : State, s.nmiIdle = true → step s = .next t → ¬ (s.ppu.scanline = 241 ∧ s.ppu.cycle = 1) →
    (t.ppu.status.getLsbD 7 = true → s.ppu.status.getLsbD 7 = true) ∧
    (s.tick % 3 ≠ 0 → t.cpu = s.cpu)
end

