-- ==== Sys2Proof/Laws/State.lean ====
section
/-! SUPPORT. Every field of the state after every register update: one lemma each, true by definition. -/

namespace Sys2Proof.Machine

@[simp] theorem State.setA_a (s : State) (v : Byte) : (s.setA v).cpu.a = v := rfl
@[simp] theorem State.setA_x (s : State) (v : Byte) : (s.setA v).cpu.x = s.cpu.x := rfl
@[simp] theorem State.setA_y (s : State) (v : Byte) : (s.setA v).cpu.y = s.cpu.y := rfl
@[simp] theorem State.setA_sp (s : State) (v : Byte) : (s.setA v).cpu.sp = s.cpu.sp := rfl
@[simp] theorem State.setA_pc (s : State) (v : Byte) : (s.setA v).cpu.pc = s.cpu.pc := rfl
@[simp] theorem State.setA_p (s : State) (v : Byte) : (s.setA v).cpu.p = s.cpu.p := rfl
@[simp] theorem State.setA_cycles (s : State) (v : Byte) : (s.setA v).cpu.cycles = s.cpu.cycles := rfl
@[simp] theorem State.setA_scratch (s : State) (v : Byte) : (s.setA v).cpu.scratch = s.cpu.scratch := rfl
@[simp] theorem State.setA_ppu (s : State) (v : Byte) : (s.setA v).ppu = s.ppu := rfl
@[simp] theorem State.setA_cart (s : State) (v : Byte) : (s.setA v).cart = s.cart := rfl
@[simp] theorem State.setA_ram (s : State) (v : Byte) : (s.setA v).ram = s.ram := rfl
@[simp] theorem State.setA_port1 (s : State) (v : Byte) : (s.setA v).port1 = s.port1 := rfl
@[simp] theorem State.setA_port2 (s : State) (v : Byte) : (s.setA v).port2 = s.port2 := rfl
@[simp] theorem State.setA_tick (s : State) (v : Byte) : (s.setA v).tick = s.tick := rfl
@[simp] theorem State.setA_fault (s : State) (v : Byte) : (s.setA v).fault = s.fault := rfl
@[simp] theorem State.setA_ready (s : State) (v : Byte) : (s.setA v).ready = s.ready := rfl
@[simp] theorem State.setA_params (s : State) (v : Byte) : (s.setA v).params = s.params := rfl

@[simp] theorem State.setX_a (s : State) (v : Byte) : (s.setX v).cpu.a = s.cpu.a := rfl
@[simp] theorem State.setX_x (s : State) (v : Byte) : (s.setX v).cpu.x = v := rfl
@[simp] theorem State.setX_y (s : State) (v : Byte) : (s.setX v).cpu.y = s.cpu.y := rfl
@[simp] theorem State.setX_sp (s : State) (v : Byte) : (s.setX v).cpu.sp = s.cpu.sp := rfl
@[simp] theorem State.setX_pc (s : State) (v : Byte) : (s.setX v).cpu.pc = s.cpu.pc := rfl
@[simp] theorem State.setX_p (s : State) (v : Byte) : (s.setX v).cpu.p = s.cpu.p := rfl
@[simp] theorem State.setX_cycles (s : State) (v : Byte) : (s.setX v).cpu.cycles = s.cpu.cycles := rfl
@[simp] theorem State.setX_scratch (s : State) (v : Byte) : (s.setX v).cpu.scratch = s.cpu.scratch := rfl
@[simp] theorem State.setX_ppu (s : State) (v : Byte) : (s.setX v).ppu = s.ppu := rfl
@[simp] theorem State.setX_cart (s : State) (v : Byte) : (s.setX v).cart = s.cart := rfl
@[simp] theorem State.setX_ram (s : State) (v : Byte) : (s.setX v).ram = s.ram := rfl
@[simp] theorem State.setX_port1 (s : State) (v : Byte) : (s.setX v).port1 = s.port1 := rfl
@[simp] theorem State.setX_port2 (s : State) (v : Byte) : (s.setX v).port2 = s.port2 := rfl
@[simp] theorem State.setX_tick (s : State) (v : Byte) : (s.setX v).tick = s.tick := rfl
@[simp] theorem State.setX_fault (s : State) (v : Byte) : (s.setX v).fault = s.fault := rfl
@[simp] theorem State.setX_ready (s : State) (v : Byte) : (s.setX v).ready = s.ready := rfl
@[simp] theorem State.setX_params (s : State) (v : Byte) : (s.setX v).params = s.params := rfl

@[simp] theorem State.setY_a (s : State) (v : Byte) : (s.setY v).cpu.a = s.cpu.a := rfl
@[simp] theorem State.setY_x (s : State) (v : Byte) : (s.setY v).cpu.x = s.cpu.x := rfl
@[simp] theorem State.setY_y (s : State) (v : Byte) : (s.setY v).cpu.y = v := rfl
@[simp] theorem State.setY_sp (s : State) (v : Byte) : (s.setY v).cpu.sp = s.cpu.sp := rfl
@[simp] theorem State.setY_pc (s : State) (v : Byte) : (s.setY v).cpu.pc = s.cpu.pc := rfl
@[simp] theorem State.setY_p (s : State) (v : Byte) : (s.setY v).cpu.p = s.cpu.p := rfl
@[simp] theorem State.setY_cycles (s : State) (v : Byte) : (s.setY v).cpu.cycles = s.cpu.cycles := rfl
@[simp] theorem State.setY_scratch (s : State) (v : Byte) : (s.setY v).cpu.scratch = s.cpu.scratch := rfl
@[simp] theorem State.setY_ppu (s : State) (v : Byte) : (s.setY v).ppu = s.ppu := rfl
@[simp] theorem State.setY_cart (s : State) (v : Byte) : (s.setY v).cart = s.cart := rfl
@[simp] theorem State.setY_ram (s : State) (v : Byte) : (s.setY v).ram = s.ram := rfl
@[simp] theorem State.setY_port1 (s : State) (v : Byte) : (s.setY v).port1 = s.port1 := rfl
@[simp] theorem State.setY_port2 (s : State) (v : Byte) : (s.setY v).port2 = s.port2 := rfl
@[simp] theorem State.setY_tick (s : State) (v : Byte) : (s.setY v).tick = s.tick := rfl
@[simp] theorem State.setY_fault (s : State) (v : Byte) : (s.setY v).fault = s.fault := rfl
@[simp] theorem State.setY_ready (s : State) (v : Byte) : (s.setY v).ready = s.ready := rfl
@[simp] theorem State.setY_params (s : State) (v : Byte) : (s.setY v).params = s.params := rfl

@[simp] theorem State.setSp_a (s : State) (v : Byte) : (s.setSp v).cpu.a = s.cpu.a := rfl
@[simp] theorem State.setSp_x (s : State) (v : Byte) : (s.setSp v).cpu.x = s.cpu.x := rfl
@[simp] theorem State.setSp_y (s : State) (v : Byte) : (s.setSp v).cpu.y = s.cpu.y := rfl
@[simp] theorem State.setSp_sp (s : State) (v : Byte) : (s.setSp v).cpu.sp = v := rfl
@[simp] theorem State.setSp_pc (s : State) (v : Byte) : (s.setSp v).cpu.pc = s.cpu.pc := rfl
@[simp] theorem State.setSp_p (s : State) (v : Byte) : (s.setSp v).cpu.p = s.cpu.p := rfl
@[simp] theorem State.setSp_cycles (s : State) (v : Byte) : (s.setSp v).cpu.cycles = s.cpu.cycles := rfl
@[simp] theorem State.setSp_scratch (s : State) (v : Byte) : (s.setSp v).cpu.scratch = s.cpu.scratch := rfl
@[simp] theorem State.setSp_ppu (s : State) (v : Byte) : (s.setSp v).ppu = s.ppu := rfl
@[simp] theorem State.setSp_cart (s : State) (v : Byte) : (s.setSp v).cart = s.cart := rfl
@[simp] theorem State.setSp_ram (s : State) (v : Byte) : (s.setSp v).ram = s.ram := rfl
@[simp] theorem State.setSp_port1 (s : State) (v : Byte) : (s.setSp v).port1 = s.port1 := rfl
@[simp] theorem State.setSp_port2 (s : State) (v : Byte) : (s.setSp v).port2 = s.port2 := rfl
@[simp] theorem State.setSp_tick (s : State) (v : Byte) : (s.setSp v).tick = s.tick := rfl
@[simp] theorem State.setSp_fault (s : State) (v : Byte) : (s.setSp v).fault = s.fault := rfl
@[simp] theorem State.setSp_ready (s : State) (v : Byte) : (s.setSp v).ready = s.ready := rfl
@[simp] theorem State.setSp_params (s : State) (v : Byte) : (s.setSp v).params = s.params := rfl

@[simp] theorem State.setPc_a (s : State) (v : Word) : (s.setPc v).cpu.a = s.cpu.a := rfl
@[simp] theorem State.setPc_x (s : State) (v : Word) : (s.setPc v).cpu.x = s.cpu.x := rfl
@[simp] theorem State.setPc_y (s : State) (v : Word) : (s.setPc v).cpu.y = s.cpu.y := rfl
@[simp] theorem State.setPc_sp (s : State) (v : Word) : (s.setPc v).cpu.sp = s.cpu.sp := rfl
@[simp] theorem State.setPc_pc (s : State) (v : Word) : (s.setPc v).cpu.pc = v := rfl
@[simp] theorem State.setPc_p (s : State) (v : Word) : (s.setPc v).cpu.p = s.cpu.p := rfl
@[simp] theorem State.setPc_cycles (s : State) (v : Word) : (s.setPc v).cpu.cycles = s.cpu.cycles := rfl
@[simp] theorem State.setPc_scratch (s : State) (v : Word) : (s.setPc v).cpu.scratch = s.cpu.scratch := rfl
@[simp] theorem State.setPc_ppu (s : State) (v : Word) : (s.setPc v).ppu = s.ppu := rfl
@[simp] theorem State.setPc_cart (s : State) (v : Word) : (s.setPc v).cart = s.cart := rfl
@[simp] theorem State.setPc_ram (s : State) (v : Word) : (s.setPc v).ram = s.ram := rfl
@[simp] theorem State.setPc_port1 (s : State) (v : Word) : (s.setPc v).port1 = s.port1 := rfl
@[simp] theorem State.setPc_port2 (s : State) (v : Word) : (s.setPc v).port2 = s.port2 := rfl
@[simp] theorem State.setPc_tick (s : State) (v : Word) : (s.setPc v).tick = s.tick := rfl
@[simp] theorem State.setPc_fault (s : State) (v : Word) : (s.setPc v).fault = s.fault := rfl
@[simp] theorem State.setPc_ready (s : State) (v : Word) : (s.setPc v).ready = s.ready := rfl
@[simp] theorem State.setPc_params (s : State) (v : Word) : (s.setPc v).params = s.params := rfl

@[simp] theorem State.setCycles_a (s : State) (n : Nat) : (s.setCycles n).cpu.a = s.cpu.a := rfl
@[simp] theorem State.setCycles_x (s : State) (n : Nat) : (s.setCycles n).cpu.x = s.cpu.x := rfl
@[simp] theorem State.setCycles_y (s : State) (n : Nat) : (s.setCycles n).cpu.y = s.cpu.y := rfl
@[simp] theorem State.setCycles_sp (s : State) (n : Nat) : (s.setCycles n).cpu.sp = s.cpu.sp := rfl
@[simp] theorem State.setCycles_pc (s : State) (n : Nat) : (s.setCycles n).cpu.pc = s.cpu.pc := rfl
@[simp] theorem State.setCycles_p (s : State) (n : Nat) : (s.setCycles n).cpu.p = s.cpu.p := rfl
@[simp] theorem State.setCycles_cycles (s : State) (n : Nat) : (s.setCycles n).cpu.cycles = n := rfl
@[simp] theorem State.setCycles_scratch (s : State) (n : Nat) : (s.setCycles n).cpu.scratch = s.cpu.scratch := rfl
@[simp] theorem State.setCycles_ppu (s : State) (n : Nat) : (s.setCycles n).ppu = s.ppu := rfl
@[simp] theorem State.setCycles_cart (s : State) (n : Nat) : (s.setCycles n).cart = s.cart := rfl
@[simp] theorem State.setCycles_ram (s : State) (n : Nat) : (s.setCycles n).ram = s.ram := rfl
@[simp] theorem State.setCycles_port1 (s : State) (n : Nat) : (s.setCycles n).port1 = s.port1 := rfl
@[simp] theorem State.setCycles_port2 (s : State) (n : Nat) : (s.setCycles n).port2 = s.port2 := rfl
@[simp] theorem State.setCycles_tick (s : State) (n : Nat) : (s.setCycles n).tick = s.tick := rfl
@[simp] theorem State.setCycles_fault (s : State) (n : Nat) : (s.setCycles n).fault = s.fault := rfl
@[simp] theorem State.setCycles_ready (s : State) (n : Nat) : (s.setCycles n).ready = s.ready := rfl
@[simp] theorem State.setCycles_params (s : State) (n : Nat) : (s.setCycles n).params = s.params := rfl

@[simp] theorem State.setScratch_a (s : State) (k : Scratch) : (s.setScratch k).cpu.a = s.cpu.a := rfl
@[simp] theorem State.setScratch_x (s : State) (k : Scratch) : (s.setScratch k).cpu.x = s.cpu.x := rfl
@[simp] theorem State.setScratch_y (s : State) (k : Scratch) : (s.setScratch k).cpu.y = s.cpu.y := rfl
@[simp] theorem State.setScratch_sp (s : State) (k : Scratch) : (s.setScratch k).cpu.sp = s.cpu.sp := rfl
@[simp] theorem State.setScratch_pc (s : State) (k : Scratch) : (s.setScratch k).cpu.pc = s.cpu.pc := rfl
@[simp] theorem State.setScratch_p (s : State) (k : Scratch) : (s.setScratch k).cpu.p = s.cpu.p := rfl
@[simp] theorem State.setScratch_cycles (s : State) (k : Scratch) : (s.setScratch k).cpu.cycles = s.cpu.cycles := rfl
@[simp] theorem State.setScratch_scratch (s : State) (k : Scratch) : (s.setScratch k).cpu.scratch = k := rfl
@[simp] theorem State.setScratch_ppu (s : State) (k : Scratch) : (s.setScratch k).ppu = s.ppu := rfl
@[simp] theorem State.setScratch_cart (s : State) (k : Scratch) : (s.setScratch k).cart = s.cart := rfl
@[simp] theorem State.setScratch_ram (s : State) (k : Scratch) : (s.setScratch k).ram = s.ram := rfl
@[simp] theorem State.setScratch_port1 (s : State) (k : Scratch) : (s.setScratch k).port1 = s.port1 := rfl
@[simp] theorem State.setScratch_port2 (s : State) (k : Scratch) : (s.setScratch k).port2 = s.port2 := rfl
@[simp] theorem State.setScratch_tick (s : State) (k : Scratch) : (s.setScratch k).tick = s.tick := rfl
@[simp] theorem State.setScratch_fault (s : State) (k : Scratch) : (s.setScratch k).fault = s.fault := rfl
@[simp] theorem State.setScratch_ready (s : State) (k : Scratch) : (s.setScratch k).ready = s.ready := rfl
@[simp] theorem State.setScratch_params (s : State) (k : Scratch) : (s.setScratch k).params = s.params := rfl

@[simp] theorem State.setP_a (s : State) (q : Byte) : (s.setP q).cpu.a = s.cpu.a := rfl
@[simp] theorem State.setP_x (s : State) (q : Byte) : (s.setP q).cpu.x = s.cpu.x := rfl
@[simp] theorem State.setP_y (s : State) (q : Byte) : (s.setP q).cpu.y = s.cpu.y := rfl
@[simp] theorem State.setP_sp (s : State) (q : Byte) : (s.setP q).cpu.sp = s.cpu.sp := rfl
@[simp] theorem State.setP_pc (s : State) (q : Byte) : (s.setP q).cpu.pc = s.cpu.pc := rfl
@[simp] theorem State.setP_p (s : State) (q : Byte) : (s.setP q).cpu.p = withFlag q .unused true := rfl
@[simp] theorem State.setP_cycles (s : State) (q : Byte) : (s.setP q).cpu.cycles = s.cpu.cycles := rfl
@[simp] theorem State.setP_scratch (s : State) (q : Byte) : (s.setP q).cpu.scratch = s.cpu.scratch := rfl
@[simp] theorem State.setP_ppu (s : State) (q : Byte) : (s.setP q).ppu = s.ppu := rfl
@[simp] theorem State.setP_cart (s : State) (q : Byte) : (s.setP q).cart = s.cart := rfl
@[simp] theorem State.setP_ram (s : State) (q : Byte) : (s.setP q).ram = s.ram := rfl
@[simp] theorem State.setP_port1 (s : State) (q : Byte) : (s.setP q).port1 = s.port1 := rfl
@[simp] theorem State.setP_port2 (s : State) (q : Byte) : (s.setP q).port2 = s.port2 := rfl
@[simp] theorem State.setP_tick (s : State) (q : Byte) : (s.setP q).tick = s.tick := rfl
@[simp] theorem State.setP_fault (s : State) (q : Byte) : (s.setP q).fault = s.fault := rfl
@[simp] theorem State.setP_ready (s : State) (q : Byte) : (s.setP q).ready = s.ready := rfl
@[simp] theorem State.setP_params (s : State) (q : Byte) : (s.setP q).params = s.params := rfl

@[simp] theorem State.noteEa_a (s : State) (ea : Word) : (s.noteEa ea).cpu.a = s.cpu.a := rfl
@[simp] theorem State.noteEa_x (s : State) (ea : Word) : (s.noteEa ea).cpu.x = s.cpu.x := rfl
@[simp] theorem State.noteEa_y (s : State) (ea : Word) : (s.noteEa ea).cpu.y = s.cpu.y := rfl
@[simp] theorem State.noteEa_sp (s : State) (ea : Word) : (s.noteEa ea).cpu.sp = s.cpu.sp := rfl
@[simp] theorem State.noteEa_pc (s : State) (ea : Word) : (s.noteEa ea).cpu.pc = s.cpu.pc := rfl
@[simp] theorem State.noteEa_p (s : State) (ea : Word) : (s.noteEa ea).cpu.p = s.cpu.p := rfl
@[simp] theorem State.noteEa_cycles (s : State) (ea : Word) : (s.noteEa ea).cpu.cycles = s.cpu.cycles := rfl
@[simp] theorem State.noteEa_scratch (s : State) (ea : Word) : (s.noteEa ea).cpu.scratch = { s.cpu.scratch with addrAbs := ea } := rfl
@[simp] theorem State.noteEa_ppu (s : State) (ea : Word) : (s.noteEa ea).ppu = s.ppu := rfl
@[simp] theorem State.noteEa_cart (s : State) (ea : Word) : (s.noteEa ea).cart = s.cart := rfl
@[simp] theorem State.noteEa_ram (s : State) (ea : Word) : (s.noteEa ea).ram = s.ram := rfl
@[simp] theorem State.noteEa_port1 (s : State) (ea : Word) : (s.noteEa ea).port1 = s.port1 := rfl
@[simp] theorem State.noteEa_port2 (s : State) (ea : Word) : (s.noteEa ea).port2 = s.port2 := rfl
@[simp] theorem State.noteEa_tick (s : State) (ea : Word) : (s.noteEa ea).tick = s.tick := rfl
@[simp] theorem State.noteEa_fault (s : State) (ea : Word) : (s.noteEa ea).fault = s.fault := rfl
@[simp] theorem State.noteEa_ready (s : State) (ea : Word) : (s.noteEa ea).ready = s.ready := rfl
@[simp] theorem State.noteEa_params (s : State) (ea : Word) : (s.noteEa ea).params = s.params := rfl

@[simp] theorem State.noteRel_a (s : State) (rel : Word) : (s.noteRel rel).cpu.a = s.cpu.a := rfl
@[simp] theorem State.noteRel_x (s : State) (rel : Word) : (s.noteRel rel).cpu.x = s.cpu.x := rfl
@[simp] theorem State.noteRel_y (s : State) (rel : Word) : (s.noteRel rel).cpu.y = s.cpu.y := rfl
@[simp] theorem State.noteRel_sp (s : State) (rel : Word) : (s.noteRel rel).cpu.sp = s.cpu.sp := rfl
@[simp] theorem State.noteRel_pc (s : State) (rel : Word) : (s.noteRel rel).cpu.pc = s.cpu.pc := rfl
@[simp] theorem State.noteRel_p (s : State) (rel : Word) : (s.noteRel rel).cpu.p = s.cpu.p := rfl
@[simp] theorem State.noteRel_cycles (s : State) (rel : Word) : (s.noteRel rel).cpu.cycles = s.cpu.cycles := rfl
@[simp] theorem State.noteRel_scratch (s : State) (rel : Word) : (s.noteRel rel).cpu.scratch = { s.cpu.scratch with addrRel := rel } := rfl
@[simp] theorem State.noteRel_ppu (s : State) (rel : Word) : (s.noteRel rel).ppu = s.ppu := rfl
@[simp] theorem State.noteRel_cart (s : State) (rel : Word) : (s.noteRel rel).cart = s.cart := rfl
@[simp] theorem State.noteRel_ram (s : State) (rel : Word) : (s.noteRel rel).ram = s.ram := rfl
@[simp] theorem State.noteRel_port1 (s : State) (rel : Word) : (s.noteRel rel).port1 = s.port1 := rfl
@[simp] theorem State.noteRel_port2 (s : State) (rel : Word) : (s.noteRel rel).port2 = s.port2 := rfl
@[simp] theorem State.noteRel_tick (s : State) (rel : Word) : (s.noteRel rel).tick = s.tick := rfl
@[simp] theorem State.noteRel_fault (s : State) (rel : Word) : (s.noteRel rel).fault = s.fault := rfl
@[simp] theorem State.noteRel_ready (s : State) (rel : Word) : (s.noteRel rel).ready = s.ready := rfl
@[simp] theorem State.noteRel_params (s : State) (rel : Word) : (s.noteRel rel).params = s.params := rfl

@[simp] theorem State.noteFetched_a (s : State) (m : Byte) : (s.noteFetched m).cpu.a = s.cpu.a := rfl
@[simp] theorem State.noteFetched_x (s : State) (m : Byte) : (s.noteFetched m).cpu.x = s.cpu.x := rfl
@[simp] theorem State.noteFetched_y (s : State) (m : Byte) : (s.noteFetched m).cpu.y = s.cpu.y := rfl
@[simp] theorem State.noteFetched_sp (s : State) (m : Byte) : (s.noteFetched m).cpu.sp = s.cpu.sp := rfl
@[simp] theorem State.noteFetched_pc (s : State) (m : Byte) : (s.noteFetched m).cpu.pc = s.cpu.pc := rfl
@[simp] theorem State.noteFetched_p (s : State) (m : Byte) : (s.noteFetched m).cpu.p = s.cpu.p := rfl
@[simp] theorem State.noteFetched_cycles (s : State) (m : Byte) : (s.noteFetched m).cpu.cycles = s.cpu.cycles := rfl
@[simp] theorem State.noteFetched_scratch (s : State) (m : Byte) : (s.noteFetched m).cpu.scratch = { s.cpu.scratch with fetched := m } := rfl
@[simp] theorem State.noteFetched_ppu (s : State) (m : Byte) : (s.noteFetched m).ppu = s.ppu := rfl
@[simp] theorem State.noteFetched_cart (s : State) (m : Byte) : (s.noteFetched m).cart = s.cart := rfl
@[simp] theorem State.noteFetched_ram (s : State) (m : Byte) : (s.noteFetched m).ram = s.ram := rfl
@[simp] theorem State.noteFetched_port1 (s : State) (m : Byte) : (s.noteFetched m).port1 = s.port1 := rfl
@[simp] theorem State.noteFetched_port2 (s : State) (m : Byte) : (s.noteFetched m).port2 = s.port2 := rfl
@[simp] theorem State.noteFetched_tick (s : State) (m : Byte) : (s.noteFetched m).tick = s.tick := rfl
@[simp] theorem State.noteFetched_fault (s : State) (m : Byte) : (s.noteFetched m).fault = s.fault := rfl
@[simp] theorem State.noteFetched_ready (s : State) (m : Byte) : (s.noteFetched m).ready = s.ready := rfl
@[simp] theorem State.noteFetched_params (s : State) (m : Byte) : (s.noteFetched m).params = s.params := rfl

@[simp] theorem State.setFlag_a (s : State) (f : Flag) (b : Bool) : (s.setFlag f b).cpu.a = s.cpu.a := rfl
@[simp] theorem State.setFlag_x (s : State) (f : Flag) (b : Bool) : (s.setFlag f b).cpu.x = s.cpu.x := rfl
@[simp] theorem State.setFlag_y (s : State) (f : Flag) (b : Bool) : (s.setFlag f b).cpu.y = s.cpu.y := rfl
@[simp] theorem State.setFlag_sp (s : State) (f : Flag) (b : Bool) : (s.setFlag f b).cpu.sp = s.cpu.sp := rfl
@[simp] theorem State.setFlag_pc (s : State) (f : Flag) (b : Bool) : (s.setFlag f b).cpu.pc = s.cpu.pc := rfl
@[simp] theorem State.setFlag_p (s : State) (f : Flag) (b : Bool) : (s.setFlag f b).cpu.p = withFlag (withFlag s.cpu.p f b) .unused true := rfl
@[simp] theorem State.setFlag_cycles (s : State) (f : Flag) (b : Bool) : (s.setFlag f b).cpu.cycles = s.cpu.cycles := rfl
@[simp] theorem State.setFlag_scratch (s : State) (f : Flag) (b : Bool) : (s.setFlag f b).cpu.scratch = s.cpu.scratch := rfl
@[simp] theorem State.setFlag_ppu (s : State) (f : Flag) (b : Bool) : (s.setFlag f b).ppu = s.ppu := rfl
@[simp] theorem State.setFlag_cart (s : State) (f : Flag) (b : Bool) : (s.setFlag f b).cart = s.cart := rfl
@[simp] theorem State.setFlag_ram (s : State) (f : Flag) (b : Bool) : (s.setFlag f b).ram = s.ram := rfl
@[simp] theorem State.setFlag_port1 (s : State) (f : Flag) (b : Bool) : (s.setFlag f b).port1 = s.port1 := rfl
@[simp] theorem State.setFlag_port2 (s : State) (f : Flag) (b : Bool) : (s.setFlag f b).port2 = s.port2 := rfl
@[simp] theorem State.setFlag_tick (s : State) (f : Flag) (b : Bool) : (s.setFlag f b).tick = s.tick := rfl
@[simp] theorem State.setFlag_fault (s : State) (f : Flag) (b : Bool) : (s.setFlag f b).fault = s.fault := rfl
@[simp] theorem State.setFlag_ready (s : State) (f : Flag) (b : Bool) : (s.setFlag f b).ready = s.ready := rfl
@[simp] theorem State.setFlag_params (s : State) (f : Flag) (b : Bool) : (s.setFlag f b).params = s.params := rfl

@[simp] theorem startInstr_a (op : Byte) (s : State) : (startInstr op s).cpu.a = s.cpu.a := rfl
@[simp] theorem startInstr_x (op : Byte) (s : State) : (startInstr op s).cpu.x = s.cpu.x := rfl
@[simp] theorem startInstr_y (op : Byte) (s : State) : (startInstr op s).cpu.y = s.cpu.y := rfl
@[simp] theorem startInstr_sp (op : Byte) (s : State) : (startInstr op s).cpu.sp = s.cpu.sp := rfl
@[simp] theorem startInstr_pc (op : Byte) (s : State) : (startInstr op s).cpu.pc = s.cpu.pc := rfl
@[simp] theorem startInstr_p (op : Byte) (s : State) : (startInstr op s).cpu.p = withFlag s.cpu.p .unused true := rfl
@[simp] theorem startInstr_cycles (op : Byte) (s : State) : (startInstr op s).cpu.cycles = s.cpu.cycles := rfl
@[simp] theorem startInstr_scratch (op : Byte) (s : State) : (startInstr op s).cpu.scratch = { s.cpu.scratch with opcode := op, dmaExtra := 0, branchExtra := 0 } := rfl
@[simp] theorem startInstr_ppu (op : Byte) (s : State) : (startInstr op s).ppu = s.ppu := rfl
@[simp] theorem startInstr_cart (op : Byte) (s : State) : (startInstr op s).cart = s.cart := rfl
@[simp] theorem startInstr_ram (op : Byte) (s : State) : (startInstr op s).ram = s.ram := rfl
@[simp] theorem startInstr_port1 (op : Byte) (s : State) : (startInstr op s).port1 = s.port1 := rfl
@[simp] theorem startInstr_port2 (op : Byte) (s : State) : (startInstr op s).port2 = s.port2 := rfl
@[simp] theorem startInstr_tick (op : Byte) (s : State) : (startInstr op s).tick = s.tick := rfl
@[simp] theorem startInstr_fault (op : Byte) (s : State) : (startInstr op s).fault = s.fault := rfl
@[simp] theorem startInstr_ready (op : Byte) (s : State) : (startInstr op s).ready = s.ready := rfl
@[simp] theorem startInstr_params (op : Byte) (s : State) : (startInstr op s).params = s.params := rfl

@[simp] theorem finishInstr_a (op : Byte) (e : Bool) (s : State) :
    (finishInstr op e s).cpu.a = s.cpu.a := rfl
@[simp] theorem finishInstr_x (op : Byte) (e : Bool) (s : State) :
    (finishInstr op e s).cpu.x = s.cpu.x := rfl
@[simp] theorem finishInstr_y (op : Byte) (e : Bool) (s : State) :
    (finishInstr op e s).cpu.y = s.cpu.y := rfl
@[simp] theorem finishInstr_sp (op : Byte) (e : Bool) (s : State) :
    (finishInstr op e s).cpu.sp = s.cpu.sp := rfl
@[simp] theorem finishInstr_pc (op : Byte) (e : Bool) (s : State) :
    (finishInstr op e s).cpu.pc = s.cpu.pc := rfl
@[simp] theorem finishInstr_p (op : Byte) (e : Bool) (s : State) :
    (finishInstr op e s).cpu.p = withFlag s.cpu.p .unused true := rfl
@[simp] theorem finishInstr_cycles (op : Byte) (e : Bool) (s : State) :
    (finishInstr op e s).cpu.cycles = baseCycles s.params op + e.toNat + s.cpu.scratch.branchExtra + s.cpu.scratch.dmaExtra := rfl
@[simp] theorem finishInstr_scratch (op : Byte) (e : Bool) (s : State) :
    (finishInstr op e s).cpu.scratch = s.cpu.scratch := rfl
@[simp] theorem finishInstr_ppu (op : Byte) (e : Bool) (s : State) : (finishInstr op e s).ppu = s.ppu := rfl
@[simp] theorem finishInstr_cart (op : Byte) (e : Bool) (s : State) : (finishInstr op e s).cart = s.cart := rfl
@[simp] theorem finishInstr_ram (op : Byte) (e : Bool) (s : State) : (finishInstr op e s).ram = s.ram := rfl
@[simp] theorem finishInstr_port1 (op : Byte) (e : Bool) (s : State) : (finishInstr op e s).port1 = s.port1 := rfl
@[simp] theorem finishInstr_port2 (op : Byte) (e : Bool) (s : State) : (finishInstr op e s).port2 = s.port2 := rfl
@[simp] theorem finishInstr_tick (op : Byte) (e : Bool) (s : State) : (finishInstr op e s).tick = s.tick := rfl
@[simp] theorem finishInstr_fault (op : Byte) (e : Bool) (s : State) : (finishInstr op e s).fault = s.fault := rfl
@[simp] theorem finishInstr_ready (op : Byte) (e : Bool) (s : State) : (finishInstr op e s).ready = s.ready := rfl
@[simp] theorem finishInstr_params (op : Byte) (e : Bool) (s : State) : (finishInstr op e s).params = s.params := rfl

end Sys2Proof.Machine
end

