-- ==== Sys2Proof/Laws/Flags.lean ====
section
/-! SUPPORT. The laws of the status byte: reading a flag after one is replaced. -/

namespace Sys2Proof.Machine

/-- A flag of a status byte with one flag replaced. -/
theorem flagOf_withFlag (p : Byte) (f g : Flag) (b : Bool) :
    flagOf (withFlag p f b) g = if f = g then b else flagOf p g := by
  cases f <;> cases g <;> cases b <;> simp [flagOf, withFlag, flagMask, flagBit]

@[simp] theorem flagOf_withFlag_same (p : Byte) (f : Flag) (b : Bool) : flagOf (withFlag p f b) f = b := by
  simp [flagOf_withFlag]

/-- A status byte is its eight flags. -/
theorem status_ext {p q : Byte} (h : ∀ f, flagOf p f = flagOf q f) : p = q := by
  apply BitVec.eq_of_getLsbD_eq
  intro i hi
  have h0 := h .carry
  have h1 := h .zero
  have h2 := h .interruptDisable
  have h3 := h .decimal
  have h4 := h .brk
  have h5 := h .unused
  have h6 := h .overflow
  have h7 := h .negative
  simp only [flagOf, flagBit] at h0 h1 h2 h3 h4 h5 h6 h7
  interval_cases i <;> assumption

end Sys2Proof.Machine
end

