-- ==== Sys2Proof/Laws/Memory.lean ====
section
/-! SUPPORT. The laws of a memory: reading what was written, leaving the rest alone, and keeping the canonical form. -/

namespace Sys2Proof.Machine

theorem Memory.wfFrom_cons (lo k : Nat) (b : Byte) (m : Memory) :
    Memory.wfFrom lo ((k, b) :: m) = true ↔ lo ≤ k ∧ b ≠ unwrittenByte ∧ Memory.wfFrom (k + 1) m = true := by
  simp [Memory.wfFrom, and_assoc]

/-- A larger bound holds of a memory that a smaller one does not reach into. -/
theorem Memory.wfFrom_mono {lo lo' : Nat} (h : lo' ≤ lo) :
    ∀ {m : Memory}, Memory.wfFrom lo m = true → Memory.wfFrom lo' m = true
  | [], _ => rfl
  | (k, b) :: m, hm => by
    rw [Memory.wfFrom_cons] at hm ⊢
    exact ⟨h.trans hm.1, hm.2⟩

/-- Below its bound a canonical memory lists nothing. -/
theorem Memory.read_lt_bound {lo a : Nat} (h : a < lo) :
    ∀ {m : Memory}, Memory.wfFrom lo m = true → m.read a = unwrittenByte
  | [], _ => rfl
  | (k, b) :: m, hm => by
    rw [Memory.wfFrom_cons] at hm
    rw [Memory.read, if_neg (by omega)]
    exact Memory.read_lt_bound (by omega) hm.2.2

theorem Memory.write_wfFrom {lo a : Nat} {v : Byte} (ha : lo ≤ a) :
    ∀ {m : Memory}, Memory.wfFrom lo m = true → Memory.wfFrom lo (m.write a v) = true
  | [], _ => by
    by_cases hv : v = unwrittenByte <;> simp [Memory.write, Memory.wfFrom, hv, ha]
  | (k, b) :: m, hm => by
    have hm' := (Memory.wfFrom_cons ..).mp hm
    rw [Memory.write]
    split
    · split
      · exact hm
      · exact (Memory.wfFrom_cons ..).mpr ⟨ha, ‹_›, (Memory.wfFrom_cons ..).mpr ⟨by omega, hm'.2⟩⟩
    · split
      · split
        · exact Memory.wfFrom_mono (by omega) hm'.2.2
        · subst a
          exact (Memory.wfFrom_cons ..).mpr ⟨ha, ‹_›, hm'.2.2⟩
      · exact (Memory.wfFrom_cons ..).mpr ⟨hm'.1, hm'.2.1, Memory.write_wfFrom (by omega) hm'.2.2⟩

/-- A write keeps the canonical form. -/
theorem Memory.write_wf {m : Memory} (h : m.wf = true) (a : Nat) (v : Byte) : (m.write a v).wf = true :=
  Memory.write_wfFrom (Nat.zero_le a) h

theorem Memory.read_write_from {lo a : Nat} (v : Byte) (i : Nat) :
    ∀ {m : Memory}, Memory.wfFrom lo m = true → (m.write a v).read i = if i = a then v else m.read i
  | [], _ => by
    by_cases hv : v = unwrittenByte <;> by_cases hi : i = a <;> simp [Memory.write, Memory.read, hv, hi]
    exact fun e => absurd e.symm hi
  | (k, b) :: m, hm => by
    have hm' := (Memory.wfFrom_cons ..).mp hm
    rw [Memory.write]
    split
    · split
      · by_cases hi : i = a
        · subst i
          rw [if_pos rfl, Memory.read, if_neg (by omega), Memory.read_lt_bound (by omega) hm'.2.2]
          exact (‹v = unwrittenByte›).symm
        · rw [if_neg hi]
      · by_cases hi : i = a
        · rw [hi, if_pos rfl, Memory.read, if_pos rfl]
        · rw [if_neg hi, Memory.read, if_neg (fun h => hi h.symm)]
    · split
      · subst a
        split
        · by_cases hi : i = k
          · subst i
            rw [if_pos rfl, Memory.read_lt_bound (by omega) hm'.2.2]
            exact (‹v = unwrittenByte›).symm
          · rw [if_neg hi]
            conv_rhs => rw [Memory.read, if_neg (fun h => hi h.symm)]
        · by_cases hi : i = k
          · rw [hi, if_pos rfl, Memory.read, if_pos rfl]
          · rw [if_neg hi, Memory.read, if_neg (fun h => hi h.symm)]
            conv_rhs => rw [Memory.read, if_neg (fun h => hi h.symm)]
      · rw [Memory.read, Memory.read_write_from v i hm'.2.2]
        by_cases hk : k = i
        · rw [if_pos hk, if_neg (by omega), Memory.read, if_pos hk]
        · rw [if_neg hk]
          conv_rhs => rw [Memory.read, if_neg hk]

/-- Reading after a write: the byte written at its own address, the old byte at every other. -/
theorem Memory.read_write {m : Memory} (h : m.wf = true) (a : Nat) (v : Byte) (i : Nat) :
    (m.write a v).read i = if i = a then v else m.read i :=
  Memory.read_write_from v i h

theorem Memory.write_below {size a : Nat} (v : Byte) (ha : a < size) :
    ∀ {m : Memory}, Memory.below size m = true → Memory.below size (m.write a v) = true
  | [], _ => by
    by_cases hv : v = unwrittenByte <;> simp [Memory.write, Memory.below, hv, ha]
  | (k, b) :: m, hm => by
    have hk : k < size ∧ Memory.below size m = true := by simpa [Memory.below] using hm
    have ih := Memory.write_below v ha hk.2
    rw [Memory.write]
    split
    · split
      · exact hm
      · simpa [Memory.below, ha] using hm
    · split
      · split
        · exact hk.2
        · simpa [Memory.below, ha] using hk.2
      · simpa [Memory.below, hk.1] using ih

/-- A frame write keeps the positions rising. -/
theorem frameWrite_wfFrom {lo i : Nat} (c : Colour) (hi : lo ≤ i) :
    ∀ {f : List (Nat × Colour)}, frameWfFrom lo f = true → frameWfFrom lo (frameWrite f i c) = true
  | [], _ => by simp [frameWrite, frameWfFrom, hi]
  | (k, d) :: f, hf => by
    have hf' : lo ≤ k ∧ frameWfFrom (k + 1) f = true := by simpa [frameWfFrom] using hf
    rw [frameWrite]
    split
    · simp [frameWfFrom, hi, hf'.2]
      omega
    · split
      · subst i
        simp [frameWfFrom, hi, hf'.2]
      · simp [frameWfFrom, hf'.1, frameWrite_wfFrom c (by omega : k + 1 ≤ i) hf'.2]

theorem frameWrite_below {size i : Nat} (c : Colour) (hi : i < size) :
    ∀ {f : List (Nat × Colour)}, f.all (fun e => decide (e.1 < size)) = true →
      (frameWrite f i c).all (fun e => decide (e.1 < size)) = true
  | [], _ => by simp [frameWrite, hi]
  | (k, d) :: f, hf => by
    have hf' : k < size ∧ f.all (fun e => decide (e.1 < size)) = true := by simpa using hf
    have ih := frameWrite_below c hi hf'.2
    rw [frameWrite]
    split
    · simpa [hi] using hf
    · split
      · simpa [hi] using hf'.2
      · simpa [hf'.1] using ih

/-- Reading a frame cell after a write, with the positions rising. -/
theorem frameRead_write (c : Colour) (i j : Nat) :
    ∀ {lo : Nat} {f : List (Nat × Colour)}, frameWfFrom lo f = true →
      frameRead (frameWrite f i c) j = if j = i then c else frameRead f j
  | _, [], _ => by
    by_cases h : j = i
    · simp [frameWrite, frameRead, h]
    · simp [frameWrite, frameRead, h]
      exact fun e => absurd e.symm h
  | lo, (k, d) :: f, hf => by
    have hf' : lo ≤ k ∧ frameWfFrom (k + 1) f = true := by simpa [frameWfFrom] using hf
    rw [frameWrite]
    split
    · by_cases h : j = i
      · simp [frameRead, h]
      · rw [frameRead, if_neg (fun e => h e.symm), if_neg h]
    · split
      · subst i
        by_cases h : j = k
        · simp [frameRead, h]
        · rw [frameRead, if_neg (fun e => h e.symm), if_neg h]
          conv_rhs => rw [frameRead, if_neg (fun e => h e.symm)]
      · rw [frameRead, frameRead_write c i j hf'.2]
        by_cases hk : k = j
        · rw [if_pos hk, if_neg (by omega), frameRead, if_pos hk]
        · rw [if_neg hk]
          conv_rhs => rw [frameRead, if_neg hk]

theorem Memory.ofBytes_wfFrom :
    ∀ (bs : List Byte) (base : Nat), Memory.wfFrom base (Memory.ofBytes base bs) = true
  | [], _ => rfl
  | b :: bs, base => by
    rw [Memory.ofBytes]
    split
    · exact Memory.wfFrom_mono (by omega) (Memory.ofBytes_wfFrom bs (base + 1))
    · exact (Memory.wfFrom_cons ..).mpr ⟨le_refl _, ‹_›, Memory.ofBytes_wfFrom bs (base + 1)⟩

/-- The memory of a list of bytes holds byte `i` at `base + i`. -/
theorem Memory.read_ofBytes :
    ∀ (bs : List Byte) (base i : Nat), (Memory.ofBytes base bs).read (base + i) = bs.getD i unwrittenByte
  | [], _, _ => rfl
  | b :: bs, base, i => by
    have tail := Memory.read_ofBytes bs (base + 1)
    rw [Memory.ofBytes]
    cases i with
    | zero =>
      split
      · rw [Memory.read_lt_bound (lo := base + 1) (by omega) (Memory.ofBytes_wfFrom bs (base + 1))]
        simp [‹b = unwrittenByte›]
      · simp [Memory.read]
    | succ i =>
      have hidx : base + (i + 1) = base + 1 + i := by omega
      split
      · rw [hidx, tail i]
        simp
      · rw [Memory.read, if_neg (by omega), hidx, tail i]
        simp

/-- The memory of a list of bytes lists no address past them. -/
theorem Memory.ofBytes_below {size : Nat} :
    ∀ {bs : List Byte} {base : Nat}, base + bs.length ≤ size → Memory.below size (Memory.ofBytes base bs) = true
  | [], _, _ => rfl
  | b :: bs, base, h => by
    rw [List.length_cons] at h
    have ih := Memory.ofBytes_below (bs := bs) (base := base + 1) (size := size) (by omega)
    rw [Memory.ofBytes]
    split
    · exact ih
    · simpa [Memory.below, show base < size by omega] using ih

/-- Canonical memories that read alike everywhere are equal. -/
theorem Memory.ext_from :
    ∀ {lo : Nat} {m m' : Memory}, Memory.wfFrom lo m = true → Memory.wfFrom lo m' = true →
      (∀ a, m.read a = m'.read a) → m = m'
  | _, [], [], _, _, _ => rfl
  | _, [], (k, b) :: m', _, h', e => by
    have hb := ((Memory.wfFrom_cons ..).mp h').2.1
    exact absurd (by simpa [Memory.read] using (e k).symm) hb
  | _, (k, b) :: m, [], h, _, e => by
    have hb := ((Memory.wfFrom_cons ..).mp h).2.1
    exact absurd (by simpa [Memory.read] using e k) hb
  | _, (k, b) :: m, (k', b') :: m', h, h', e => by
    have g := (Memory.wfFrom_cons ..).mp h
    have g' := (Memory.wfFrom_cons ..).mp h'
    have hk : k = k' := by
      rcases Nat.lt_trichotomy k k' with hlt | heq | hgt
      · have := e k
        rw [Memory.read, if_pos rfl, Memory.read, if_neg (by omega),
          Memory.read_lt_bound (by omega) g'.2.2] at this
        exact absurd this g.2.1
      · exact heq
      · have := e k'
        rw [Memory.read, if_neg (by omega), Memory.read_lt_bound (by omega) g.2.2, Memory.read, if_pos rfl] at this
        exact absurd this.symm g'.2.1
    subst k'
    have hb : b = b' := by simpa [Memory.read] using e k
    subst b'
    have hm : m = m' := Memory.ext_from g.2.2 g'.2.2 (fun a => by
      rcases eq_or_ne k a with rfl | hne
      · rw [Memory.read_lt_bound (by omega) g.2.2, Memory.read_lt_bound (by omega) g'.2.2]
      · simpa [Memory.read, hne] using e a)
    rw [hm]

end Sys2Proof.Machine
end

