-- ==== Sys2Proof/Laws/Bus.lean ====
section
/-! SUPPORT. Everything a bus access, a stack access and an exception entry can do, said once. -/

namespace Sys2Proof.Machine

/-! ### The mapper and the ranges -/

/-- Below 0x8000 every mapper declines a read. -/
theorem Cart.cpuMapRead_low (c : Cart) {a : Word} (h : a.toNat < 0x8000) : c.cpuMapRead a = none := by
  unfold Cart.cpuMapRead
  split <;> simp_all

/-- Below 0x8000 every mapper declines a write. -/
theorem Cart.cpuMapWrite_low (c : Cart) {a : Word} (v : Byte) (h : a.toNat < 0x8000) : c.cpuMapWrite a v = none := by
  unfold Cart.cpuMapWrite
  split <;> simp_all

/-- A claimed write discards the byte. -/
theorem Cart.cpuMapWrite_some {c c' : Cart} {a : Word} {v : Byte} (h : c.cpuMapWrite a v = some c') : c' = c := by
  unfold Cart.cpuMapWrite at h
  split at h
  · split at h <;> simp_all
  · simp at h

theorem memRead_ram {a : Word} (s : State) (h : a.toNat ≤ 0x1FFF) : memRead a s = (s.ram.read (ramIndex a), s) := by
  simp [memRead, Cart.cpuMapRead_low s.cart (show a.toNat < 0x8000 by omega), h]

theorem memWrite_ram {a : Word} (v : Byte) (s : State) (h : a.toNat ≤ 0x1FFF) :
    memWrite a v s = { s with ram := s.ram.write (ramIndex a) v } := by
  simp [memWrite, Cart.cpuMapWrite_low s.cart v (show a.toNat < 0x8000 by omega), h]

/-- At and above 0x8000 a read changes nothing. -/
theorem memRead_high {a : Word} (s : State) (h : 0x8000 ≤ a.toNat) : (memRead a s).2 = s := by
  have h1 : ¬ a.toNat ≤ 0x1FFF := by omega
  have h2 : ¬ a.toNat ≤ 0x3FFF := by omega
  have h3 : a ≠ 0x4016#16 := by rintro rfl; simp at h
  have h4 : a ≠ 0x4017#16 := by rintro rfl; simp at h
  unfold memRead
  split
  · rfl
  · rw [if_neg h1, if_neg h2, if_neg h3, if_neg h4]

/-- At and above 0x8000 a write changes nothing (63_cartridge.md R438). -/
theorem memWrite_high {a : Word} (v : Byte) (s : State) (h : 0x8000 ≤ a.toNat) : memWrite a v s = s := by
  have h1 : ¬ a.toNat ≤ 0x1FFF := by omega
  have h2 : ¬ a.toNat ≤ 0x3FFF := by omega
  have h3 : a ≠ 0x4014#16 := by rintro rfl; simp at h
  have h4 : a ≠ 0x4016#16 := by rintro rfl; simp at h
  have h5 : a ≠ 0x4017#16 := by rintro rfl; simp at h
  unfold memWrite
  split
  · rename_i c hc
    rw [Cart.cpuMapWrite_some hc]
  · rw [if_neg h1, if_neg h2, if_neg h3, if_neg h4, if_neg h5]

/-! ### A port access changes no memory but what the port is for -/

/-- A port read touches the registers only: v, w, the buffer and Status. -/
theorem ppuRegRead_eq (c : Cart) (p : Ppu) (r : Nat) :
    (ppuRegRead c p r).2 =
      { p with
        status := (ppuRegRead c p r).2.status
        w := (ppuRegRead c p r).2.w
        dataBuffer := (ppuRegRead c p r).2.dataBuffer
        v := (ppuRegRead c p r).2.v } := by
  unfold ppuRegRead
  split
  · simp [readStatus]
  · simp
  · simp only [readVramData]
    split <;> simp
  · simp

/-- A read changes the PPU's registers and the ports' shift registers only. -/
theorem memRead_eq (a : Word) (s : State) :
    (memRead a s).2 =
      { s with ppu := (memRead a s).2.ppu, port1 := (memRead a s).2.port1, port2 := (memRead a s).2.port2 } := by
  unfold memRead
  split
  · rfl
  · split
    · rfl
    · split
      · rfl
      · split
        · rfl
        · split <;> rfl

@[simp] theorem memRead_cpu (a : Word) (s : State) : (memRead a s).2.cpu = s.cpu := by rw [memRead_eq]

@[simp] theorem memRead_cart (a : Word) (s : State) : (memRead a s).2.cart = s.cart := by rw [memRead_eq]

@[simp] theorem memRead_ramField (a : Word) (s : State) : (memRead a s).2.ram = s.ram := by rw [memRead_eq]

@[simp] theorem memRead_tick (a : Word) (s : State) : (memRead a s).2.tick = s.tick := by rw [memRead_eq]

@[simp] theorem memRead_fault (a : Word) (s : State) : (memRead a s).2.fault = s.fault := by rw [memRead_eq]

@[simp] theorem memRead_ready (a : Word) (s : State) : (memRead a s).2.ready = s.ready := by rw [memRead_eq]

@[simp] theorem memRead_params (a : Word) (s : State) : (memRead a s).2.params = s.params := by rw [memRead_eq]

/-- A read does not look at the CPU's registers. -/
theorem memRead_withCpu (a : Word) (s : State) (c : Cpu) :
    memRead a { s with cpu := c } = ((memRead a s).1, { (memRead a s).2 with cpu := c }) := by
  unfold memRead
  dsimp only
  split
  · rfl
  · split
    · rfl
    · split
      · rfl
      · split
        · rfl
        · split <;> rfl

/-- The clocks a write adds to its instruction (20_memory.md R110). -/
def writeStall (a : Word) (s : State) : Nat := if a = 0x4014#16 then dmaCycles s.params.dmaParity s.tick else 0

theorem ppuRegWrite_cart (c : Cart) (p : Ppu) (r : Nat) (d : Byte) :
    (ppuRegWrite c p r d).1 = { c with chr := (ppuRegWrite c p r d).1.chr } := by
  unfold ppuRegWrite
  split
  all_goals try rfl
  simp only [writeVramData, ppuWrite]
  split
  · rename_i c' hc
    unfold Cart.ppuMapWrite at hc
    split at hc
    · split at hc
      · simp only [Option.some.injEq] at hc
        subst hc
        rfl
      · simp at hc
    · simp at hc
  · split
    · rfl
    · split <;> rfl

theorem writeStall_ne {a : Word} (s : State) (h : a ≠ 0x4014#16) : writeStall a s = 0 := if_neg h

/-- A write changes RAM, the PPU, CHR, the ports and the collected stall only. -/
theorem memWrite_eq (a : Word) (v : Byte) (s : State) :
    memWrite a v s =
      { s with
        cpu := { s.cpu with
          scratch := { s.cpu.scratch with dmaExtra := s.cpu.scratch.dmaExtra + writeStall a s } }
        ram := (memWrite a v s).ram
        ppu := (memWrite a v s).ppu
        cart := { s.cart with chr := (memWrite a v s).cart.chr }
        port1 := (memWrite a v s).port1
        port2 := (memWrite a v s).port2 } := by
  by_cases hhi : 0x8000 ≤ a.toNat
  · rw [memWrite_high v s hhi, writeStall_ne s (by rintro rfl; simp at hhi)]
    rfl
  · unfold memWrite
    rw [Cart.cpuMapWrite_low s.cart v (by omega)]
    dsimp only
    by_cases h1 : a.toNat ≤ 0x1FFF
    · rw [writeStall_ne s (by rintro rfl; simp at h1), if_pos h1]
      rfl
    · by_cases h2 : a.toNat ≤ 0x3FFF
      · rw [writeStall_ne s (by rintro rfl; simp at h2), if_neg h1, if_pos h2]
        dsimp only
        rw [← ppuRegWrite_cart]
        rfl
      · rw [if_neg h1, if_neg h2]
        by_cases h3 : a = 0x4014#16
        · rw [if_pos h3, writeStall, if_pos h3]
          rfl
        · rw [if_neg h3, writeStall_ne s h3]
          by_cases h4 : a = 0x4016#16
          · rw [if_pos h4]
            rfl
          · rw [if_neg h4]
            by_cases h5 : a = 0x4017#16
            · rw [if_pos h5]
              rfl
            · rw [if_neg h5]
              rfl

@[simp] theorem memWrite_cpu (a : Word) (v : Byte) (s : State) :
    (memWrite a v s).cpu =
      { s.cpu with scratch := { s.cpu.scratch with dmaExtra := s.cpu.scratch.dmaExtra + writeStall a s } } := by
  rw [memWrite_eq]

@[simp] theorem memWrite_tick (a : Word) (v : Byte) (s : State) : (memWrite a v s).tick = s.tick := by rw [memWrite_eq]

@[simp] theorem memWrite_fault (a : Word) (v : Byte) (s : State) : (memWrite a v s).fault = s.fault := by rw [memWrite_eq]

@[simp] theorem memWrite_ready (a : Word) (v : Byte) (s : State) : (memWrite a v s).ready = s.ready := by rw [memWrite_eq]

@[simp] theorem memWrite_params (a : Word) (v : Byte) (s : State) : (memWrite a v s).params = s.params := by rw [memWrite_eq]

/-- A write does not look at the CPU's registers. -/
theorem memWrite_withCpu (a : Word) (v : Byte) (s : State) (c : Cpu) :
    memWrite a v { s with cpu := c } =
      { memWrite a v s with
        cpu := { c with scratch := { c.scratch with dmaExtra := c.scratch.dmaExtra + writeStall a s } } } := by
  rw [memWrite_eq]
  have e : (memWrite a v { s with cpu := c }).ram = (memWrite a v s).ram ∧
      (memWrite a v { s with cpu := c }).ppu = (memWrite a v s).ppu ∧
      (memWrite a v { s with cpu := c }).cart = (memWrite a v s).cart ∧
      (memWrite a v { s with cpu := c }).port1 = (memWrite a v s).port1 ∧
      (memWrite a v { s with cpu := c }).port2 = (memWrite a v s).port2 := by
    unfold memWrite
    dsimp only
    split
    · exact ⟨rfl, rfl, rfl, rfl, rfl⟩
    · repeat' split
      all_goals exact ⟨rfl, rfl, rfl, rfl, rfl⟩
  rw [e.1, e.2.1, e.2.2.1, e.2.2.2.1, e.2.2.2.2]
  conv_rhs => rw [memWrite_eq]
  rfl

/-! ### The stack and the vectors -/

theorem zext16_toNat (b : Byte) : (zext16 b).toNat = b.toNat := by
  simp [zext16]
  omega

theorem stackAddr_toNat (sp : Byte) : (stackAddr sp).toNat = 256 + sp.toNat := by
  have := sp.isLt
  simp only [stackAddr, BitVec.toNat_add, zext16_toNat, BitVec.toNat_ofNat]
  omega

theorem ramIndex_toNat (a : Word) : ramIndex a = a.toNat % 2048 := by
  have : (a.toNat &&& 2047) = a.toNat % 2 ^ 11 := Nat.and_two_pow_sub_one_eq_mod a.toNat 11
  simpa [ramIndex] using this

theorem ramIndex_stack (sp : Byte) : ramIndex (stackAddr sp) = 256 + sp.toNat := by
  have := sp.isLt
  rw [ramIndex_toNat, stackAddr_toNat]
  omega

theorem ramIndex_zeroPage (zp : Byte) : ramIndex (zext16 zp) = zp.toNat := by
  have := zp.isLt
  rw [ramIndex_toNat, zext16_toNat]
  omega

/-- A push writes the stack cell in RAM and takes one off SP (44_stack.md R240). -/
theorem push_eq (v : Byte) (s : State) :
    push v s = { s with
      ram := s.ram.write (256 + s.cpu.sp.toNat) v
      cpu := { s.cpu with sp := s.cpu.sp - 1 } } := by
  have := s.cpu.sp.isLt
  rw [push, memWrite_ram _ _ (by rw [stackAddr_toNat]; omega), ramIndex_stack]
  rfl

/-- A pull adds one to SP and reads the stack cell in RAM (44_stack.md R240). -/
theorem pull_eq (s : State) : pull s = (s.ram.read (256 + (s.cpu.sp + 1).toNat), s.setSp (s.cpu.sp + 1)) := by
  have := (s.cpu.sp + 1).isLt
  rw [pull, memRead_ram _ (by rw [stackAddr_toNat]; omega), ramIndex_stack]
  rfl

/-- The word at a zero-page pointer, both bytes in RAM (40_cycle_and_addressing.md R187, R188). -/
theorem zeroPageWord_eq (zp : Byte) (s : State) :
    zeroPageWord zp s = (wordOfBytes (s.ram.read zp.toNat) (s.ram.read (zp + 1).toNat), s) := by
  have h0 := zp.isLt
  have h1 := (zp + 1).isLt
  rw [zeroPageWord, memRead_ram _ (by rw [zext16_toNat]; omega)]
  dsimp only
  rw [memRead_ram _ (by rw [zext16_toNat]; omega), ramIndex_zeroPage, ramIndex_zeroPage]

theorem memReadWord_high {a : Word} (s : State) (h : 0x8000 ≤ a.toNat) (h' : 0x8000 ≤ (a + 1).toNat) :
    memReadWord a s = (wordOfBytes (memRead a s).1 (memRead (a + 1) s).1, s) := by
  simp only [memReadWord, memRead_high s h, memRead_high s h']

/-- At and above 0x8000 the byte read is the cartridge's alone. -/
theorem memRead_high_value {a : Word} (s t : State) (h : 0x8000 ≤ a.toNat) (hc : s.cart = t.cart) :
    (memRead a s).1 = (memRead a t).1 := by
  have h1 : ¬ a.toNat ≤ 0x1FFF := by omega
  have h2 : ¬ a.toNat ≤ 0x3FFF := by omega
  have h3 : a ≠ 0x4016#16 := by rintro rfl; simp at h
  have h4 : a ≠ 0x4017#16 := by rintro rfl; simp at h
  unfold memRead
  rw [hc]
  split
  · rfl
  · simp [h1, h2, h3, h4]

/-- Taking an exception through a vector above 0x8000: three bytes pushed, I set, the PC at the vector's word
(60_exceptions.md R314). -/
theorem takeException_eq (pc : Word) (status : Byte) {vector : Word} (s : State) (h : 0x8000 ≤ vector.toNat)
    (h' : 0x8000 ≤ (vector + 1).toNat) :
    takeException pc status vector s =
      { s with
        ram := ((s.ram.write (256 + s.cpu.sp.toNat) (highByte pc)).write (256 + (s.cpu.sp - 1).toNat)
          (lowByte pc)).write (256 + (s.cpu.sp - 2).toNat) status
        cpu := { s.cpu with
          sp := s.cpu.sp - 3
          pc := wordOfBytes (memRead vector s).1 (memRead (vector + 1) s).1
          p := withFlag (withFlag s.cpu.p .interruptDisable true) .unused true } } := by
  have e2 : s.cpu.sp - 1 - 1 = s.cpu.sp - 2 := by
    rw [BitVec.sub_sub]
    rfl
  have e3 : s.cpu.sp - 2 - 1 = s.cpu.sp - 3 := by
    rw [BitVec.sub_sub]
    rfl
  have e (u : State) (hu : u.cart = s.cart) :
      memReadWord vector u = (wordOfBytes (memRead vector s).1 (memRead (vector + 1) s).1, u) := by
    rw [memReadWord_high u h h', memRead_high_value u s h hu, memRead_high_value u s h' hu]
  simp only [takeException, pushWord, push_eq]
  rw [e2, e3, e]
  · rfl
  · rfl

end Sys2Proof.Machine
end

