-- ==== Sys2Proof/Laws/Exec.lean ====
section
/-! SUPPORT. What each addressing mode and each instruction shape can do, said once. -/

namespace Sys2Proof.Machine

/-! ### The base count (30_encoding.md R156) -/

theorem baseCycles_of_absent {params : Params} {op : Byte} (h : ∀ e, e ∈ params.cycleBase → e.1 ≠ op) :
    baseCycles params op = defaultCycles op := by
  have : params.cycleBase.find? (fun e => e.1 == op) = none := by simpa [List.find?_eq_none] using h
  rw [baseCycles, this]
  rfl

theorem baseCycles_of_listed {params : Params} {op : Byte} {before after : List (Byte × Nat)} {k : Nat}
    (he : params.cycleBase = before ++ (op, k) :: after) (h : ∀ e, e ∈ before → e.1 ≠ op) : baseCycles params op = k := by
  have : before.find? (fun e => e.1 == op) = none := by simpa [List.find?_eq_none] using h
  rw [baseCycles, he, List.find?_append, this]
  simp

/-! ### Addressing modes: the address and the page flag do not depend on the status byte or the scratch values -/

theorem modeZp0_start (zp op : Byte) (s : State) :
    modeZp0 zp (startInstr op s) = ⟨(startInstr op s).noteEa (modeZp0 zp s).ea, (modeZp0 zp s).ea, false⟩ := rfl

theorem modeZpx_start (zp op : Byte) (s : State) :
    modeZpx zp (startInstr op s) = ⟨(startInstr op s).noteEa (modeZpx zp s).ea, (modeZpx zp s).ea, false⟩ := rfl

theorem modeZpy_start (zp op : Byte) (s : State) :
    modeZpy zp (startInstr op s) = ⟨(startInstr op s).noteEa (modeZpy zp s).ea, (modeZpy zp s).ea, false⟩ := rfl

theorem modeAbs_start (addr : Word) (op : Byte) (s : State) :
    modeAbs addr (startInstr op s) = ⟨(startInstr op s).noteEa (modeAbs addr s).ea, (modeAbs addr s).ea, false⟩ := rfl

theorem modeAbx_start (addr : Word) (op : Byte) (s : State) :
    modeAbx addr (startInstr op s) =
      ⟨(startInstr op s).noteEa (modeAbx addr s).ea, (modeAbx addr s).ea, (modeAbx addr s).crossed⟩ := rfl

theorem modeAby_start (addr : Word) (op : Byte) (s : State) :
    modeAby addr (startInstr op s) =
      ⟨(startInstr op s).noteEa (modeAby addr s).ea, (modeAby addr s).ea, (modeAby addr s).crossed⟩ := rfl

/-- IZX reads its pointer in RAM, so it changes nothing but the note of the address. -/
theorem modeIzx_eq (zp : Byte) (s : State) :
    modeIzx zp s = addressedAt s
      (wordOfBytes (s.ram.read (zp + s.cpu.x).toNat) (s.ram.read (zp + s.cpu.x + 1).toNat)) := by
  simp only [modeIzx, zeroPageWord_eq]

/-- IZY reads its pointer in RAM, so it changes nothing but the note of the address. -/
theorem modeIzy_eq (zp : Byte) (s : State) :
    modeIzy zp s = indexed (wordOfBytes (s.ram.read zp.toNat) (s.ram.read (zp + 1).toNat)) s.cpu.y s := by
  simp only [modeIzy, zeroPageWord_eq]

theorem modeIzx_start (zp op : Byte) (s : State) :
    modeIzx zp (startInstr op s) = ⟨(startInstr op s).noteEa (modeIzx zp s).ea, (modeIzx zp s).ea, false⟩ := by
  simp only [modeIzx_eq]
  rfl

theorem modeIzy_start (zp op : Byte) (s : State) :
    modeIzy zp (startInstr op s) =
      ⟨(startInstr op s).noteEa (modeIzy zp s).ea, (modeIzy zp s).ea, (modeIzy zp s).crossed⟩ := by
  simp only [modeIzy_eq]
  rfl

/-- IND reads its pointer's word with the reads' side effects (40_cycle_and_addressing.md R186). -/
theorem modeInd_start (ptr : Word) (op : Byte) (s : State) :
    modeInd ptr (startInstr op s) =
      let lo := memRead ptr s
      let hi := memRead (indirectHighAddr ptr) lo.2
      ⟨{ hi.2 with cpu := ((startInstr op s).noteEa (wordOfBytes lo.1 hi.1)).cpu }, wordOfBytes lo.1 hi.1, false⟩ := by
  have e₁ := memRead_withCpu ptr s (startInstr op s).cpu
  have e₂ := memRead_withCpu (indirectHighAddr ptr) (memRead ptr s).2 (startInstr op s).cpu
  change memRead ptr (startInstr op s) = _ at e₁
  unfold modeInd
  rw [e₁]
  dsimp only
  dsimp only at e₂
  rw [e₂]
  rfl

/-! ### Instruction shapes: the read and the write are those of the state the instruction started in -/

/-- An instruction over an operand read from memory. -/
theorem runRead_eq {op : Byte} {o : Bool} {mode : State → Addressed} {effect : Byte → State → State} {s : State} {ea : Word}
    {cr : Bool} (h : mode (startInstr op s) = ⟨(startInstr op s).noteEa ea, ea, cr⟩) :
    runRead op o mode effect s = .next (finishInstr op (cr && o) (effect (memRead ea s).1
      { (memRead ea s).2 with cpu := (((startInstr op s).noteEa ea).noteFetched (memRead ea s).1).cpu })) := by
  unfold runRead
  rw [h]
  have e := memRead_withCpu ea s ((startInstr op s).noteEa ea).cpu
  change memRead ea ((startInstr op s).noteEa ea) = _ at e
  simp only [e]
  rfl

/-- A store. -/
theorem runStore_eq {op : Byte} {mode : State → Addressed} {value : State → Byte} {s : State} {ea : Word} {cr : Bool}
    (h : mode (startInstr op s) = ⟨(startInstr op s).noteEa ea, ea, cr⟩) :
    runStore op mode value s = .next (finishInstr op false
      { memWrite ea (value ((startInstr op s).noteEa ea)) s with
        cpu := ((startInstr op s).noteEa ea).setScratch
          { ((startInstr op s).noteEa ea).cpu.scratch with dmaExtra := writeStall ea s } |>.cpu }) := by
  unfold runStore
  rw [h]
  have e := memWrite_withCpu ea (value ((startInstr op s).noteEa ea)) s ((startInstr op s).noteEa ea).cpu
  change memWrite ea _ ((startInstr op s).noteEa ea) = _ at e
  simp only [e]
  simp [startInstr, State.noteEa, State.setScratch]

/-- A read-modify-write of memory, where the effect changes the CPU's registers only. -/
theorem runModify_eq {op : Byte} {mode : State → Addressed} {effect : Byte → State → Byte × State} {s : State} {ea : Word}
    {cr : Bool} (h : mode (startInstr op s) = ⟨(startInstr op s).noteEa ea, ea, cr⟩)
    (he : ∀ m u, (effect m u).2 = { u with cpu := (effect m u).2.cpu }) :
    runModify op mode effect s =
      let m := memRead ea s
      let r := effect m.1 { m.2 with cpu := (((startInstr op s).noteEa ea).noteFetched m.1).cpu }
      .next (finishInstr op false { memWrite ea r.1 m.2 with
        cpu := { r.2.cpu with
          scratch := { r.2.cpu.scratch with dmaExtra := r.2.cpu.scratch.dmaExtra + writeStall ea s } } }) := by
  unfold runModify
  rw [h]
  have e := memRead_withCpu ea s ((startInstr op s).noteEa ea).cpu
  change memRead ea ((startInstr op s).noteEa ea) = _ at e
  simp only [e]
  have hw (m : Byte) (u : State) : memWrite ea m (effect (memRead ea s).1 u).2 =
      { memWrite ea m u with cpu := { (effect (memRead ea s).1 u).2.cpu with
          scratch := { (effect (memRead ea s).1 u).2.cpu.scratch with
            dmaExtra := (effect (memRead ea s).1 u).2.cpu.scratch.dmaExtra + writeStall ea u } } } := by
    rw [he, memWrite_withCpu]
  rw [hw]
  have hs : ∀ c, writeStall ea { (memRead ea s).2 with cpu := c } = writeStall ea s := by
    intro c
    simp [writeStall]
  change Host.Outcome.next (finishInstr op false { memWrite ea _ { (memRead ea s).2 with cpu := _ } with cpu := _ }) = _
  rw [memWrite_withCpu]
  simp only [State.noteFetched, State.setScratch, hs]

end Sys2Proof.Machine
end

