-- ==== Sys2Proof/Laws/PerInstr.lean ====
section
/-! SUPPORT. One statement per instruction about its encoding: its first byte has a row of the instruction table, and its length
is that of the row's form (30_encoding.md R150, R152). -/

namespace Sys2Proof.Laws.Shape

/-- The bytes a form occupies after the opcode: none, BRK's padding byte, one operand byte, or two (30_encoding.md R150). -/
def tailLength : Form → Nat
  | .implied _ => 0
  | .padded _ => 1
  | .byte _ => 1
  | .word _ => 2

/-- A well-formed instruction, whose first byte begins a row of the table and whose further bytes are as many as the row's
form takes. -/
def Statement (i : Instr) : Prop :=
  i.wellFormed = true ∧
    ∃ op rest row, encode i = op :: rest ∧ lookupOpcode op = some row ∧ rest.length = tailLength row.form

theorem brk : Statement .brk :=
  ⟨rfl, _, _, _, rfl, rfl, rfl⟩

theorem oraIzx (zp : Byte) : Statement (.oraIzx zp) :=
  ⟨rfl, _, _, _, rfl, rfl, rfl⟩

theorem oraZp0 (zp : Byte) : Statement (.oraZp0 zp) :=
  ⟨rfl, _, _, _, rfl, rfl, rfl⟩

theorem aslZp0 (zp : Byte) : Statement (.aslZp0 zp) :=
  ⟨rfl, _, _, _, rfl, rfl, rfl⟩

theorem php : Statement .php :=
  ⟨rfl, _, _, _, rfl, rfl, rfl⟩

theorem oraImm (imm : Byte) : Statement (.oraImm imm) :=
  ⟨rfl, _, _, _, rfl, rfl, rfl⟩

theorem aslAcc : Statement .aslAcc :=
  ⟨rfl, _, _, _, rfl, rfl, rfl⟩

theorem oraAbs (addr : Word) : Statement (.oraAbs addr) :=
  ⟨rfl, _, _, _, rfl, rfl, rfl⟩

theorem aslAbs (addr : Word) : Statement (.aslAbs addr) :=
  ⟨rfl, _, _, _, rfl, rfl, rfl⟩

theorem bpl (rel : Byte) : Statement (.bpl rel) :=
  ⟨rfl, _, _, _, rfl, rfl, rfl⟩

theorem oraIzy (zp : Byte) : Statement (.oraIzy zp) :=
  ⟨rfl, _, _, _, rfl, rfl, rfl⟩

theorem oraZpx (zp : Byte) : Statement (.oraZpx zp) :=
  ⟨rfl, _, _, _, rfl, rfl, rfl⟩

theorem aslZpx (zp : Byte) : Statement (.aslZpx zp) :=
  ⟨rfl, _, _, _, rfl, rfl, rfl⟩

theorem clc : Statement .clc :=
  ⟨rfl, _, _, _, rfl, rfl, rfl⟩

theorem oraAby (addr : Word) : Statement (.oraAby addr) :=
  ⟨rfl, _, _, _, rfl, rfl, rfl⟩

theorem oraAbx (addr : Word) : Statement (.oraAbx addr) :=
  ⟨rfl, _, _, _, rfl, rfl, rfl⟩

theorem aslAbx (addr : Word) : Statement (.aslAbx addr) :=
  ⟨rfl, _, _, _, rfl, rfl, rfl⟩

theorem jsr (addr : Word) : Statement (.jsr addr) :=
  ⟨rfl, _, _, _, rfl, rfl, rfl⟩

theorem andIzx (zp : Byte) : Statement (.andIzx zp) :=
  ⟨rfl, _, _, _, rfl, rfl, rfl⟩

theorem bitZp0 (zp : Byte) : Statement (.bitZp0 zp) :=
  ⟨rfl, _, _, _, rfl, rfl, rfl⟩

theorem andZp0 (zp : Byte) : Statement (.andZp0 zp) :=
  ⟨rfl, _, _, _, rfl, rfl, rfl⟩

theorem rolZp0 (zp : Byte) : Statement (.rolZp0 zp) :=
  ⟨rfl, _, _, _, rfl, rfl, rfl⟩

theorem plp : Statement .plp :=
  ⟨rfl, _, _, _, rfl, rfl, rfl⟩

theorem andImm (imm : Byte) : Statement (.andImm imm) :=
  ⟨rfl, _, _, _, rfl, rfl, rfl⟩

theorem rolAcc : Statement .rolAcc :=
  ⟨rfl, _, _, _, rfl, rfl, rfl⟩

theorem bitAbs (addr : Word) : Statement (.bitAbs addr) :=
  ⟨rfl, _, _, _, rfl, rfl, rfl⟩

theorem andAbs (addr : Word) : Statement (.andAbs addr) :=
  ⟨rfl, _, _, _, rfl, rfl, rfl⟩

theorem rolAbs (addr : Word) : Statement (.rolAbs addr) :=
  ⟨rfl, _, _, _, rfl, rfl, rfl⟩

theorem bmi (rel : Byte) : Statement (.bmi rel) :=
  ⟨rfl, _, _, _, rfl, rfl, rfl⟩

theorem andIzy (zp : Byte) : Statement (.andIzy zp) :=
  ⟨rfl, _, _, _, rfl, rfl, rfl⟩

theorem andZpx (zp : Byte) : Statement (.andZpx zp) :=
  ⟨rfl, _, _, _, rfl, rfl, rfl⟩

theorem rolZpx (zp : Byte) : Statement (.rolZpx zp) :=
  ⟨rfl, _, _, _, rfl, rfl, rfl⟩

theorem sec : Statement .sec :=
  ⟨rfl, _, _, _, rfl, rfl, rfl⟩

theorem andAby (addr : Word) : Statement (.andAby addr) :=
  ⟨rfl, _, _, _, rfl, rfl, rfl⟩

theorem andAbx (addr : Word) : Statement (.andAbx addr) :=
  ⟨rfl, _, _, _, rfl, rfl, rfl⟩

theorem rolAbx (addr : Word) : Statement (.rolAbx addr) :=
  ⟨rfl, _, _, _, rfl, rfl, rfl⟩

theorem rti : Statement .rti :=
  ⟨rfl, _, _, _, rfl, rfl, rfl⟩

theorem eorIzx (zp : Byte) : Statement (.eorIzx zp) :=
  ⟨rfl, _, _, _, rfl, rfl, rfl⟩

theorem eorZp0 (zp : Byte) : Statement (.eorZp0 zp) :=
  ⟨rfl, _, _, _, rfl, rfl, rfl⟩

theorem lsrZp0 (zp : Byte) : Statement (.lsrZp0 zp) :=
  ⟨rfl, _, _, _, rfl, rfl, rfl⟩

theorem pha : Statement .pha :=
  ⟨rfl, _, _, _, rfl, rfl, rfl⟩

theorem eorImm (imm : Byte) : Statement (.eorImm imm) :=
  ⟨rfl, _, _, _, rfl, rfl, rfl⟩

theorem lsrAcc : Statement .lsrAcc :=
  ⟨rfl, _, _, _, rfl, rfl, rfl⟩

theorem jmpAbs (addr : Word) : Statement (.jmpAbs addr) :=
  ⟨rfl, _, _, _, rfl, rfl, rfl⟩

theorem eorAbs (addr : Word) : Statement (.eorAbs addr) :=
  ⟨rfl, _, _, _, rfl, rfl, rfl⟩

theorem lsrAbs (addr : Word) : Statement (.lsrAbs addr) :=
  ⟨rfl, _, _, _, rfl, rfl, rfl⟩

theorem bvc (rel : Byte) : Statement (.bvc rel) :=
  ⟨rfl, _, _, _, rfl, rfl, rfl⟩

theorem eorIzy (zp : Byte) : Statement (.eorIzy zp) :=
  ⟨rfl, _, _, _, rfl, rfl, rfl⟩

theorem eorZpx (zp : Byte) : Statement (.eorZpx zp) :=
  ⟨rfl, _, _, _, rfl, rfl, rfl⟩

theorem lsrZpx (zp : Byte) : Statement (.lsrZpx zp) :=
  ⟨rfl, _, _, _, rfl, rfl, rfl⟩

theorem cli : Statement .cli :=
  ⟨rfl, _, _, _, rfl, rfl, rfl⟩

theorem eorAby (addr : Word) : Statement (.eorAby addr) :=
  ⟨rfl, _, _, _, rfl, rfl, rfl⟩

theorem eorAbx (addr : Word) : Statement (.eorAbx addr) :=
  ⟨rfl, _, _, _, rfl, rfl, rfl⟩

theorem lsrAbx (addr : Word) : Statement (.lsrAbx addr) :=
  ⟨rfl, _, _, _, rfl, rfl, rfl⟩

theorem rts : Statement .rts :=
  ⟨rfl, _, _, _, rfl, rfl, rfl⟩

theorem adcIzx (zp : Byte) : Statement (.adcIzx zp) :=
  ⟨rfl, _, _, _, rfl, rfl, rfl⟩

theorem adcZp0 (zp : Byte) : Statement (.adcZp0 zp) :=
  ⟨rfl, _, _, _, rfl, rfl, rfl⟩

theorem rorZp0 (zp : Byte) : Statement (.rorZp0 zp) :=
  ⟨rfl, _, _, _, rfl, rfl, rfl⟩

theorem pla : Statement .pla :=
  ⟨rfl, _, _, _, rfl, rfl, rfl⟩

theorem adcImm (imm : Byte) : Statement (.adcImm imm) :=
  ⟨rfl, _, _, _, rfl, rfl, rfl⟩

theorem rorAcc : Statement .rorAcc :=
  ⟨rfl, _, _, _, rfl, rfl, rfl⟩

theorem jmpInd (ptr : Word) : Statement (.jmpInd ptr) :=
  ⟨rfl, _, _, _, rfl, rfl, rfl⟩

theorem adcAbs (addr : Word) : Statement (.adcAbs addr) :=
  ⟨rfl, _, _, _, rfl, rfl, rfl⟩

theorem rorAbs (addr : Word) : Statement (.rorAbs addr) :=
  ⟨rfl, _, _, _, rfl, rfl, rfl⟩

theorem bvs (rel : Byte) : Statement (.bvs rel) :=
  ⟨rfl, _, _, _, rfl, rfl, rfl⟩

theorem adcIzy (zp : Byte) : Statement (.adcIzy zp) :=
  ⟨rfl, _, _, _, rfl, rfl, rfl⟩

theorem adcZpx (zp : Byte) : Statement (.adcZpx zp) :=
  ⟨rfl, _, _, _, rfl, rfl, rfl⟩

theorem rorZpx (zp : Byte) : Statement (.rorZpx zp) :=
  ⟨rfl, _, _, _, rfl, rfl, rfl⟩

theorem sei : Statement .sei :=
  ⟨rfl, _, _, _, rfl, rfl, rfl⟩

theorem adcAby (addr : Word) : Statement (.adcAby addr) :=
  ⟨rfl, _, _, _, rfl, rfl, rfl⟩

theorem adcAbx (addr : Word) : Statement (.adcAbx addr) :=
  ⟨rfl, _, _, _, rfl, rfl, rfl⟩

theorem rorAbx (addr : Word) : Statement (.rorAbx addr) :=
  ⟨rfl, _, _, _, rfl, rfl, rfl⟩

theorem staIzx (zp : Byte) : Statement (.staIzx zp) :=
  ⟨rfl, _, _, _, rfl, rfl, rfl⟩

theorem styZp0 (zp : Byte) : Statement (.styZp0 zp) :=
  ⟨rfl, _, _, _, rfl, rfl, rfl⟩

theorem staZp0 (zp : Byte) : Statement (.staZp0 zp) :=
  ⟨rfl, _, _, _, rfl, rfl, rfl⟩

theorem stxZp0 (zp : Byte) : Statement (.stxZp0 zp) :=
  ⟨rfl, _, _, _, rfl, rfl, rfl⟩

theorem dey : Statement .dey :=
  ⟨rfl, _, _, _, rfl, rfl, rfl⟩

theorem txa : Statement .txa :=
  ⟨rfl, _, _, _, rfl, rfl, rfl⟩

theorem styAbs (addr : Word) : Statement (.styAbs addr) :=
  ⟨rfl, _, _, _, rfl, rfl, rfl⟩

theorem staAbs (addr : Word) : Statement (.staAbs addr) :=
  ⟨rfl, _, _, _, rfl, rfl, rfl⟩

theorem stxAbs (addr : Word) : Statement (.stxAbs addr) :=
  ⟨rfl, _, _, _, rfl, rfl, rfl⟩

theorem bcc (rel : Byte) : Statement (.bcc rel) :=
  ⟨rfl, _, _, _, rfl, rfl, rfl⟩

theorem staIzy (zp : Byte) : Statement (.staIzy zp) :=
  ⟨rfl, _, _, _, rfl, rfl, rfl⟩

theorem styZpx (zp : Byte) : Statement (.styZpx zp) :=
  ⟨rfl, _, _, _, rfl, rfl, rfl⟩

theorem staZpx (zp : Byte) : Statement (.staZpx zp) :=
  ⟨rfl, _, _, _, rfl, rfl, rfl⟩

theorem stxZpy (zp : Byte) : Statement (.stxZpy zp) :=
  ⟨rfl, _, _, _, rfl, rfl, rfl⟩

theorem tya : Statement .tya :=
  ⟨rfl, _, _, _, rfl, rfl, rfl⟩

theorem staAby (addr : Word) : Statement (.staAby addr) :=
  ⟨rfl, _, _, _, rfl, rfl, rfl⟩

theorem txs : Statement .txs :=
  ⟨rfl, _, _, _, rfl, rfl, rfl⟩

theorem staAbx (addr : Word) : Statement (.staAbx addr) :=
  ⟨rfl, _, _, _, rfl, rfl, rfl⟩

theorem ldyImm (imm : Byte) : Statement (.ldyImm imm) :=
  ⟨rfl, _, _, _, rfl, rfl, rfl⟩

theorem ldaIzx (zp : Byte) : Statement (.ldaIzx zp) :=
  ⟨rfl, _, _, _, rfl, rfl, rfl⟩

theorem ldxImm (imm : Byte) : Statement (.ldxImm imm) :=
  ⟨rfl, _, _, _, rfl, rfl, rfl⟩

theorem ldyZp0 (zp : Byte) : Statement (.ldyZp0 zp) :=
  ⟨rfl, _, _, _, rfl, rfl, rfl⟩

theorem ldaZp0 (zp : Byte) : Statement (.ldaZp0 zp) :=
  ⟨rfl, _, _, _, rfl, rfl, rfl⟩

theorem ldxZp0 (zp : Byte) : Statement (.ldxZp0 zp) :=
  ⟨rfl, _, _, _, rfl, rfl, rfl⟩

theorem tay : Statement .tay :=
  ⟨rfl, _, _, _, rfl, rfl, rfl⟩

theorem ldaImm (imm : Byte) : Statement (.ldaImm imm) :=
  ⟨rfl, _, _, _, rfl, rfl, rfl⟩

theorem tax : Statement .tax :=
  ⟨rfl, _, _, _, rfl, rfl, rfl⟩

theorem ldyAbs (addr : Word) : Statement (.ldyAbs addr) :=
  ⟨rfl, _, _, _, rfl, rfl, rfl⟩

theorem ldaAbs (addr : Word) : Statement (.ldaAbs addr) :=
  ⟨rfl, _, _, _, rfl, rfl, rfl⟩

theorem ldxAbs (addr : Word) : Statement (.ldxAbs addr) :=
  ⟨rfl, _, _, _, rfl, rfl, rfl⟩

theorem bcs (rel : Byte) : Statement (.bcs rel) :=
  ⟨rfl, _, _, _, rfl, rfl, rfl⟩

theorem ldaIzy (zp : Byte) : Statement (.ldaIzy zp) :=
  ⟨rfl, _, _, _, rfl, rfl, rfl⟩

theorem ldyZpx (zp : Byte) : Statement (.ldyZpx zp) :=
  ⟨rfl, _, _, _, rfl, rfl, rfl⟩

theorem ldaZpx (zp : Byte) : Statement (.ldaZpx zp) :=
  ⟨rfl, _, _, _, rfl, rfl, rfl⟩

theorem ldxZpy (zp : Byte) : Statement (.ldxZpy zp) :=
  ⟨rfl, _, _, _, rfl, rfl, rfl⟩

theorem clv : Statement .clv :=
  ⟨rfl, _, _, _, rfl, rfl, rfl⟩

theorem ldaAby (addr : Word) : Statement (.ldaAby addr) :=
  ⟨rfl, _, _, _, rfl, rfl, rfl⟩

theorem tsx : Statement .tsx :=
  ⟨rfl, _, _, _, rfl, rfl, rfl⟩

theorem ldyAbx (addr : Word) : Statement (.ldyAbx addr) :=
  ⟨rfl, _, _, _, rfl, rfl, rfl⟩

theorem ldaAbx (addr : Word) : Statement (.ldaAbx addr) :=
  ⟨rfl, _, _, _, rfl, rfl, rfl⟩

theorem ldxAby (addr : Word) : Statement (.ldxAby addr) :=
  ⟨rfl, _, _, _, rfl, rfl, rfl⟩

theorem cpyImm (imm : Byte) : Statement (.cpyImm imm) :=
  ⟨rfl, _, _, _, rfl, rfl, rfl⟩

theorem cmpIzx (zp : Byte) : Statement (.cmpIzx zp) :=
  ⟨rfl, _, _, _, rfl, rfl, rfl⟩

theorem cpyZp0 (zp : Byte) : Statement (.cpyZp0 zp) :=
  ⟨rfl, _, _, _, rfl, rfl, rfl⟩

theorem cmpZp0 (zp : Byte) : Statement (.cmpZp0 zp) :=
  ⟨rfl, _, _, _, rfl, rfl, rfl⟩

theorem decZp0 (zp : Byte) : Statement (.decZp0 zp) :=
  ⟨rfl, _, _, _, rfl, rfl, rfl⟩

theorem iny : Statement .iny :=
  ⟨rfl, _, _, _, rfl, rfl, rfl⟩

theorem cmpImm (imm : Byte) : Statement (.cmpImm imm) :=
  ⟨rfl, _, _, _, rfl, rfl, rfl⟩

theorem dex : Statement .dex :=
  ⟨rfl, _, _, _, rfl, rfl, rfl⟩

theorem cpyAbs (addr : Word) : Statement (.cpyAbs addr) :=
  ⟨rfl, _, _, _, rfl, rfl, rfl⟩

theorem cmpAbs (addr : Word) : Statement (.cmpAbs addr) :=
  ⟨rfl, _, _, _, rfl, rfl, rfl⟩

theorem decAbs (addr : Word) : Statement (.decAbs addr) :=
  ⟨rfl, _, _, _, rfl, rfl, rfl⟩

theorem bne (rel : Byte) : Statement (.bne rel) :=
  ⟨rfl, _, _, _, rfl, rfl, rfl⟩

theorem cmpIzy (zp : Byte) : Statement (.cmpIzy zp) :=
  ⟨rfl, _, _, _, rfl, rfl, rfl⟩

theorem cmpZpx (zp : Byte) : Statement (.cmpZpx zp) :=
  ⟨rfl, _, _, _, rfl, rfl, rfl⟩

theorem decZpx (zp : Byte) : Statement (.decZpx zp) :=
  ⟨rfl, _, _, _, rfl, rfl, rfl⟩

theorem cld : Statement .cld :=
  ⟨rfl, _, _, _, rfl, rfl, rfl⟩

theorem cmpAby (addr : Word) : Statement (.cmpAby addr) :=
  ⟨rfl, _, _, _, rfl, rfl, rfl⟩

theorem cmpAbx (addr : Word) : Statement (.cmpAbx addr) :=
  ⟨rfl, _, _, _, rfl, rfl, rfl⟩

theorem decAbx (addr : Word) : Statement (.decAbx addr) :=
  ⟨rfl, _, _, _, rfl, rfl, rfl⟩

theorem cpxImm (imm : Byte) : Statement (.cpxImm imm) :=
  ⟨rfl, _, _, _, rfl, rfl, rfl⟩

theorem sbcIzx (zp : Byte) : Statement (.sbcIzx zp) :=
  ⟨rfl, _, _, _, rfl, rfl, rfl⟩

theorem cpxZp0 (zp : Byte) : Statement (.cpxZp0 zp) :=
  ⟨rfl, _, _, _, rfl, rfl, rfl⟩

theorem sbcZp0 (zp : Byte) : Statement (.sbcZp0 zp) :=
  ⟨rfl, _, _, _, rfl, rfl, rfl⟩

theorem incZp0 (zp : Byte) : Statement (.incZp0 zp) :=
  ⟨rfl, _, _, _, rfl, rfl, rfl⟩

theorem inx : Statement .inx :=
  ⟨rfl, _, _, _, rfl, rfl, rfl⟩

theorem sbcImm (imm : Byte) : Statement (.sbcImm imm) :=
  ⟨rfl, _, _, _, rfl, rfl, rfl⟩

theorem nop : Statement .nop :=
  ⟨rfl, _, _, _, rfl, rfl, rfl⟩

theorem cpxAbs (addr : Word) : Statement (.cpxAbs addr) :=
  ⟨rfl, _, _, _, rfl, rfl, rfl⟩

theorem sbcAbs (addr : Word) : Statement (.sbcAbs addr) :=
  ⟨rfl, _, _, _, rfl, rfl, rfl⟩

theorem incAbs (addr : Word) : Statement (.incAbs addr) :=
  ⟨rfl, _, _, _, rfl, rfl, rfl⟩

theorem beq (rel : Byte) : Statement (.beq rel) :=
  ⟨rfl, _, _, _, rfl, rfl, rfl⟩

theorem sbcIzy (zp : Byte) : Statement (.sbcIzy zp) :=
  ⟨rfl, _, _, _, rfl, rfl, rfl⟩

theorem sbcZpx (zp : Byte) : Statement (.sbcZpx zp) :=
  ⟨rfl, _, _, _, rfl, rfl, rfl⟩

theorem incZpx (zp : Byte) : Statement (.incZpx zp) :=
  ⟨rfl, _, _, _, rfl, rfl, rfl⟩

theorem sed : Statement .sed :=
  ⟨rfl, _, _, _, rfl, rfl, rfl⟩

theorem sbcAby (addr : Word) : Statement (.sbcAby addr) :=
  ⟨rfl, _, _, _, rfl, rfl, rfl⟩

theorem sbcAbx (addr : Word) : Statement (.sbcAbx addr) :=
  ⟨rfl, _, _, _, rfl, rfl, rfl⟩

theorem incAbx (addr : Word) : Statement (.incAbx addr) :=
  ⟨rfl, _, _, _, rfl, rfl, rfl⟩

end Sys2Proof.Laws.Shape
end

