-- ==== Sys2Proof/Laws/Ppu.lean ====
section
/-! SUPPORT. What each part of a PPU clock can change, said once (62_ppu.md R371 to R394). -/

namespace Sys2Proof.Machine

/-! ### The lists of the sprite units -/

@[simp] theorem mapFirst_length {α : Type} (f : α → α) : ∀ (n : Nat) (l : List α), (mapFirst f n l).length = l.length
  | 0, _ => rfl
  | _ + 1, [] => rfl
  | n + 1, x :: l => by simp [mapFirst, mapFirst_length f n l]

/-- The first `n` entries are mapped, the others stay. -/
theorem mapFirst_getElem? {α : Type} (f : α → α) :
    ∀ (n : Nat) (l : List α) (k : Nat), (mapFirst f n l)[k]? = if k < n then l[k]?.map f else l[k]?
  | 0, l, k => by simp [mapFirst]
  | n + 1, [], k => by simp [mapFirst]
  | n + 1, x :: l, 0 => by simp [mapFirst]
  | n + 1, x :: l, k + 1 => by simp [mapFirst, mapFirst_getElem? f n l k]

@[simp] theorem copyEntry_length (oam : Memory) (n k : Nat) (l : List SpriteSlot) : (copyEntry oam n k l).length = l.length := by
  simp [copyEntry]

/-! ### What each part changes -/

/-- The scan changes the list, its count, the sprite-zero note and Status (R384). -/
theorem scanOam_eq (fuel n : Nat) (p : Ppu) :
    scanOam fuel n p = { p with
      spriteCount := (scanOam fuel n p).spriteCount
      spriteZeroPossible := (scanOam fuel n p).spriteZeroPossible
      slots := (scanOam fuel n p).slots
      status := (scanOam fuel n p).status } := by
  induction fuel generalizing n p with
  | zero => rfl
  | succ fuel ih =>
    rw [scanOam]
    split
    · split
      · rfl
      · rw [ih]
    · rw [ih]

/-- The scan keeps the number of slots and finds at most eight entries; of Status it can only set overflow (R384). -/
theorem scanOam_bounds (fuel n : Nat) (p : Ppu) (h : p.spriteCount ≤ 8) :
    (scanOam fuel n p).slots.length = p.slots.length ∧ (scanOam fuel n p).spriteCount ≤ 8 ∧
      ((scanOam fuel n p).status = p.status ∨ (scanOam fuel n p).status = p.status ||| 0x20) := by
  induction fuel generalizing n p with
  | zero => exact ⟨rfl, h, .inl rfl⟩
  | succ fuel ih =>
    rw [scanOam]
    split
    · split
      · exact ⟨rfl, h, .inr rfl⟩
      · rename_i hc
        have := ih (n + 1)
          { p with
            spriteZeroPossible := p.spriteZeroPossible || decide (n = 0)
            slots := copyEntry p.oam n p.spriteCount p.slots
            spriteCount := p.spriteCount + 1 } (by simp only; omega)
        simpa using this
    · exact ih (n + 1) p h

theorem spriteEval_eq (p : Ppu) :
    spriteEval p = { p with
      spriteCount := (spriteEval p).spriteCount
      spriteZeroPossible := (spriteEval p).spriteZeroPossible
      slots := (spriteEval p).slots
      status := (spriteEval p).status } := by
  unfold spriteEval
  rw [scanOam_eq]

/-- The sub-phase action changes the fetch latches, the shifters and `v` (R372). -/
theorem subPhase_eq (c : Cart) (p : Ppu) :
    subPhase c p = { p with
      bgNextId := (subPhase c p).bgNextId
      bgNextAttr := (subPhase c p).bgNextAttr
      bgNextLo := (subPhase c p).bgNextLo
      bgNextHi := (subPhase c p).bgNextHi
      bgShiftPatLo := (subPhase c p).bgShiftPatLo
      bgShiftPatHi := (subPhase c p).bgShiftPatHi
      bgShiftAttrLo := (subPhase c p).bgShiftAttrLo
      bgShiftAttrHi := (subPhase c p).bgShiftAttrHi
      v := (subPhase c p).v } := by
  unfold subPhase
  split
  all_goals try rfl
  split <;> rfl

/-- The attribute latch is a two-bit palette (R376). -/
theorem attributeBits_two (v : Word) (b : Byte) : attributeBits v b &&& 0xFC = 0 := by
  unfold attributeBits
  generalize (if (coarseX v).getLsbD 1 = true then _ else _ : Byte) = x
  rw [BitVec.and_assoc]
  simp

/-- The pixel step changes the frame, the sprite-zero note and Status, of which it can only set the hit (R389 to R393). -/
theorem composite_eq (c : Cart) (p : Ppu) :
    composite c p = { p with
      spriteZeroRendering := (composite c p).spriteZeroRendering
      status := (composite c p).status
      frame := (composite c p).frame } ∧
    ((composite c p).status = p.status ∨ (composite c p).status = p.status ||| 0x40) := by
  unfold composite spriteZeroCheck
  dsimp only
  split
  · split
    · exact ⟨rfl, .inr rfl⟩
    · exact ⟨rfl, .inl rfl⟩
  · exact ⟨rfl, .inl rfl⟩

/-- The counters' step changes the position and `frame_complete` (R394). -/
theorem advance_eq (p : Ppu) :
    advance p = { p with
      cycle := (advance p).cycle
      scanline := (advance p).scanline
      frameComplete := (advance p).frameComplete } := by
  unfold advance
  split
  · rfl
  · split <;> rfl

/-- A view of the PPU that a step keeps when it is taken is kept where the step may be left out. -/
theorem onlyIf_keeps {α : Type} (g : Ppu → α) {b : Bool} {f : Ppu → Ppu} {p : Ppu} (h : b = true → g (f p) = g p) :
    g (onlyIf b f p) = g p := by
  unfold onlyIf
  split
  · exact h ‹_›
  · rfl

/-- The registers and memories that only the CPU's accesses write (R372, 20_memory.md R126). -/
def Ppu.portSide (p : Ppu) : Byte × Byte × Word × BitVec 3 × Bool × Byte × Byte × Memory × Memory × Memory :=
  (p.ctrl, p.mask, p.t, p.fineX, p.w, p.dataBuffer, p.oamAddr, p.nametable, p.palette, p.oam)

theorem windowWork_portSide (c : Cart) (p : Ppu) : (windowWork c p).portSide = p.portSide := by
  rw [windowWork, subPhase_eq]
  exact onlyIf_keeps Ppu.portSide (fun _ => rfl)

theorem horizontalReload_portSide (p : Ppu) : (horizontalReload p).portSide = p.portSide :=
  onlyIf_keeps Ppu.portSide (fun _ => rfl)

theorem loadSpriteShifters_spriteEval_portSide (c : Cart) (p : Ppu) :
    (loadSpriteShifters c (spriteEval p)).portSide = p.portSide := by
  rw [spriteEval_eq]
  rfl

/-- The work of lines -1 to 239 leaves the port side alone (R372). -/
theorem fetchLineWork_portSide (c : Cart) (p : Ppu) : (fetchLineWork c p).portSide = p.portSide := by
  unfold fetchLineWork
  dsimp only
  rw [onlyIf_keeps Ppu.portSide (fun _ => rfl),
    onlyIf_keeps Ppu.portSide (fun _ => loadSpriteShifters_spriteEval_portSide c _),
    onlyIf_keeps Ppu.portSide (fun _ => horizontalReload_portSide _), onlyIf_keeps Ppu.portSide (fun _ => rfl),
    onlyIf_keeps Ppu.portSide (fun _ => windowWork_portSide c _), onlyIf_keeps Ppu.portSide (fun _ => rfl)]

/-- The window's work leaves Status and the sprite-zero note (R372). -/
theorem windowWork_status (c : Cart) (p : Ppu) :
    ((windowWork c p).status, (windowWork c p).spriteZeroRendering) = (p.status, p.spriteZeroRendering) := by
  rw [windowWork, subPhase_eq]
  exact onlyIf_keeps (fun q => (q.status, q.spriteZeroRendering)) (fun _ => rfl)

/-- A PPU address reads alike in two PPUs with the same memories (20_memory.md R121, R126). -/
theorem ppuRead_congr (c : Cart) {p q : Ppu} (a : Word) (hn : p.nametable = q.nametable) (hp : p.palette = q.palette) :
    ppuRead c p a = ppuRead c q a := by
  unfold ppuRead
  rw [hn, hp]

end Sys2Proof.Machine
end

