-- ==== Sys2Proof/Laws/Sound.lean ====
section
/-! SUPPORT. Every memory operation of the buses, and a cartridge load, keeps the memories canonical and in their sizes. -/

namespace Sys2Proof.Machine

/-- `memoryOk`, clause by clause. -/
theorem memoryOk_iff (s : State) :
    s.memoryOk = true ↔
      (s.ram.wf = true ∧ Memory.below 2048 s.ram = true) ∧
      (s.ppu.nametable.wf = true ∧ Memory.below 2048 s.ppu.nametable = true) ∧
      (s.ppu.palette.wf = true ∧ Memory.below 32 s.ppu.palette = true) ∧
      (s.ppu.oam.wf = true ∧ Memory.below 256 s.ppu.oam = true) ∧
      (s.cart.memoryOk = true ∧ memInitOk s.params.memInit = true) ∧
      (frameWfFrom 0 s.ppu.frame = true ∧ s.ppu.frame.all (fun c => decide (c.1 < 61440)) = true) := by
  simp only [State.memoryOk, Bool.and_eq_true, and_assoc]

/-- One write keeps a memory canonical and in its size. -/
theorem Memory.write_ok {size a : Nat} {m : Memory} (v : Byte) (h : m.wf = true ∧ Memory.below size m = true) (ha : a < size) :
    (m.write a v).wf = true ∧ Memory.below size (m.write a v) = true :=
  ⟨Memory.write_wf h.1 a v, Memory.write_below v ha h.2⟩

/-- A write to CHR-RAM keeps the cartridge's memories sound (63_cartridge.md R440). -/
theorem Cart.memoryOk_writeChr {c : Cart} {a : Nat} (v : Byte) (h : c.memoryOk = true) (hb : c.chrBanks = 0#8) (ha : a < 8192) :
    ({ c with chr := c.chr.write a v } : Cart).memoryOk = true := by
  simp only [Cart.memoryOk, Cart.prgSize, Cart.chrSize, hb, if_true, Bool.and_eq_true, Bool.or_eq_true] at h ⊢
  exact ⟨⟨h.1.1, Memory.write_wf h.1.2 a v⟩, h.2.imp_right (fun k => ⟨k.1, Memory.write_below v ha k.2⟩)⟩

/-- A load leaves sound memories, whatever the image (63_cartridge.md R432). -/
theorem Cart.load_memoryOk {c : Cart} {chrRam : Memory} (image : List Byte) (h : c.memoryOk = true) (hw : chrRam.wf = true)
    (hb : Memory.below 8192 chrRam = true) : (c.load chrRam image).memoryOk = true := by
  have hwf : c.prg.wf = true ∧ c.chr.wf = true := by simp_all [Cart.memoryOk]
  unfold Cart.load
  dsimp only
  split
  · simp [Cart.memoryOk, hwf]
  · split
    · simp [Cart.memoryOk, hwf]
    · rename_i hlen
      simp only [Cart.memoryOk, Cart.prgSize, Cart.chrSize, Bool.and_eq_true, Bool.or_eq_true]
      have hprg := Memory.ofBytes_wfFrom ((image.drop (prgStart image)).take ((imageByte image 4).toNat * 16384)) 0
      refine ⟨⟨hprg, ?_⟩, .inr ⟨Memory.ofBytes_below (by simp), ?_⟩⟩
      · split
        · exact hw
        · exact Memory.ofBytes_wfFrom _ 0
      · split
        · exact hb
        · exact Memory.ofBytes_below (by simp)

theorem ntIndex_lt (m : Mirroring) (a : Word) : ntIndex m a < 2048 := by
  have h1 : (a &&& 0x03FF).toNat < 1024 := by
    have : a.toNat &&& 1023 = a.toNat % 2 ^ 10 := Nat.and_two_pow_sub_one_eq_mod a.toNat 10
    simp [this]
    omega
  have h2 : ((a &&& 0x0FFF) >>> 10).toNat < 4 := by
    have : a.toNat &&& 4095 = a.toNat % 2 ^ 12 := Nat.and_two_pow_sub_one_eq_mod a.toNat 12
    simp [this, Nat.shiftRight_eq_div_pow]
    omega
  unfold ntIndex ntBank
  cases m <;> dsimp only <;> omega

theorem palIndex_lt (a : Word) : palIndex a < 32 := by
  have h1 : (a &&& 0x001F).toNat < 32 := by
    have : a.toNat &&& 31 = a.toNat % 2 ^ 5 := Nat.and_two_pow_sub_one_eq_mod a.toNat 5
    simp [this]
    omega
  unfold palIndex
  dsimp only
  split <;> omega

theorem dmaCopy_ok (ram : Memory) (page : Byte) {oam : Memory} (h : oam.wf = true ∧ Memory.below 256 oam = true) :
    ∀ n, n ≤ 256 → (dmaCopy ram page oam n).wf = true ∧ Memory.below 256 (dmaCopy ram page oam n) = true
  | 0, _ => h
  | n + 1, hn => Memory.write_ok _ (dmaCopy_ok ram page h n (by omega)) (by omega)

/-- Every OAM cell a DMA has copied holds its RAM byte, every other its old one (20_memory.md R109). -/
theorem dmaCopy_read (ram : Memory) (page : Byte) {oam : Memory} (h : oam.wf = true) (i : Nat) :
    ∀ n, (dmaCopy ram page oam n).wf = true ∧
      (dmaCopy ram page oam n).read i = if i < n then ram.read (dmaSource page i) else oam.read i
  | 0 => ⟨h, by simp [dmaCopy]⟩
  | n + 1 => by
    have ih := dmaCopy_read ram page h i n
    refine ⟨Memory.write_wf ih.1 _ _, ?_⟩
    rw [dmaCopy, Memory.read_write ih.1, ih.2]
    by_cases hi : i = n
    · subst i
      simp
    · rw [if_neg hi]
      by_cases hlt : i < n
      · rw [if_pos hlt, if_pos (by omega)]
      · rw [if_neg hlt, if_neg (by omega)]

/-- A write through the PPU's data port keeps its memories and CHR sound (20_memory.md R122). -/
theorem ppuWrite_ok (c : Cart) (p : Ppu) (a : Word) (v : Byte) :
    (p.nametable.wf = true ∧ Memory.below 2048 p.nametable = true →
      (ppuWrite c p a v).2.nametable.wf = true ∧ Memory.below 2048 (ppuWrite c p a v).2.nametable = true) ∧
    (p.palette.wf = true ∧ Memory.below 32 p.palette = true →
      (ppuWrite c p a v).2.palette.wf = true ∧ Memory.below 32 (ppuWrite c p a v).2.palette = true) ∧
    (c.memoryOk = true → (ppuWrite c p a v).1.memoryOk = true) ∧
    (ppuWrite c p a v).2.oam = p.oam ∧ (ppuWrite c p a v).2.frame = p.frame ∧ (ppuWrite c p a v).1.prg = c.prg := by
  unfold ppuWrite
  dsimp only
  split
  · rename_i c' hc
    unfold Cart.ppuMapWrite at hc
    split at hc
    · split at hc
      · simp only [Option.some.injEq] at hc
        subst hc
        exact ⟨id, id, fun h => Cart.memoryOk_writeChr v h ‹_ ∧ _›.2 (by omega), rfl, rfl, rfl⟩
      · simp at hc
    · simp at hc
  · split
    · exact ⟨id, id, id, rfl, rfl, rfl⟩
    · split
      · exact ⟨fun h => Memory.write_ok v h (ntIndex_lt ..), id, id, rfl, rfl, rfl⟩
      · exact ⟨id, fun h => Memory.write_ok v h (palIndex_lt _), id, rfl, rfl, rfl⟩

/-- A bus read writes no memory. -/
theorem memRead_memoryOk (a : Word) (s : State) : (memRead a s).2.memoryOk = s.memoryOk := by
  unfold memRead
  split
  · rfl
  · split
    · rfl
    · split
      · dsimp only
        rw [ppuRegRead_eq]
        rfl
      · split
        · rfl
        · split <;> rfl

/-- A bus write keeps every memory sound. -/
theorem memWrite_memoryOk (a : Word) (v : Byte) {s : State} (h : s.memoryOk = true) : (memWrite a v s).memoryOk = true := by
  rw [memoryOk_iff] at h ⊢
  obtain ⟨hr, hn, hp, ho, hc, hf⟩ := h
  unfold memWrite
  split
  · rename_i c hm
    rw [Cart.cpuMapWrite_some hm]
    exact ⟨hr, hn, hp, ho, hc, hf⟩
  · split
    · refine ⟨Memory.write_ok v hr ?_, hn, hp, ho, hc, hf⟩
      rw [ramIndex_toNat]
      omega
    · split
      · dsimp only
        unfold ppuRegWrite
        split
        · exact ⟨hr, hn, hp, ho, hc, hf⟩
        · exact ⟨hr, hn, hp, ho, hc, hf⟩
        · exact ⟨hr, hn, hp, ho, hc, hf⟩
        · exact ⟨hr, hn, hp, Memory.write_ok v ho s.ppu.oamAddr.isLt, hc, hf⟩
        · unfold writeScroll
          split <;> exact ⟨hr, hn, hp, ho, hc, hf⟩
        · unfold writeVramAddr
          split <;> exact ⟨hr, hn, hp, ho, hc, hf⟩
        · obtain ⟨w1, w2, w3, w4, w5, w6⟩ := ppuWrite_ok s.cart s.ppu s.ppu.v v
          refine ⟨hr, w1 hn, w2 hp, ?_, ⟨w3 hc.1, hc.2⟩, ?_⟩
          · simpa [writeVramData, w4] using ho
          · simpa [writeVramData, w5] using hf
        · exact ⟨hr, hn, hp, ho, hc, hf⟩
      · split
        · have hd := dmaCopy_ok s.ram v ho 256 (Nat.le_refl 256)
          simp only [oamDma]
          exact ⟨hr, hn, hp, hd, hc, hf⟩
        · split
          · exact ⟨hr, hn, hp, ho, hc, hf⟩
          · split <;> exact ⟨hr, hn, hp, ho, hc, hf⟩

end Sys2Proof.Machine
end

