-- ==== Sys2Proof/Laws/Step.lean ====
section
/-! SUPPORT. What a clock of the CPU and a tick of the machine can do, said once: every case with its conditions. -/

namespace Sys2Proof.Machine

/-- When a mapper exists (63_cartridge.md R432, R435). -/
theorem Cart.mapper_isSome (c : Cart) :
    c.mapper.isSome = true ↔ c.valid = true ∧ c.mapperId = 0#8 ∧ (c.prgBanks = 1#8 ∨ c.prgBanks = 2#8) ∧
      (c.chrBanks = 0#8 ∨ c.chrBanks = 1#8) := by
  unfold Cart.mapper
  split <;> simp_all

/-- Taking an IRQ or NMI: three bytes pushed, I and U set, the PC at the vector's word, the count replaced
(60_exceptions.md R314). -/
theorem interruptEntry_eq {vector : Word} (n : Nat) (s : State) (h : 0x8000 ≤ vector.toNat)
    (h' : 0x8000 ≤ (vector + 1).toNat) :
    interruptEntry vector n s =
      { s with
        ram := ((s.ram.write (256 + s.cpu.sp.toNat) (highByte s.cpu.pc)).write (256 + (s.cpu.sp - 1).toNat)
          (lowByte s.cpu.pc)).write (256 + (s.cpu.sp - 2).toNat) (statusForInterrupt s.params.pushedIMode s.cpu.p)
        cpu := { s.cpu with
          sp := s.cpu.sp - 3
          pc := wordOfBytes (memRead vector s).1 (memRead (vector + 1) s).1
          p := withFlag (withFlag s.cpu.p .interruptDisable true) .unused true
          cycles := n } } := by
  unfold interruptEntry
  rw [takeException_eq _ _ _ h h']
  rfl

/-- Returning from an exception: three bytes pulled, the status byte first (47_flags_system.md R299). -/
theorem returnFromException_eq (s : State) :
    returnFromException s =
      { s with cpu := { s.cpu with
          sp := s.cpu.sp + 1 + 1 + 1
          pc := wordOfBytes (s.ram.read (256 + (s.cpu.sp + 1 + 1).toNat)) (s.ram.read (256 + (s.cpu.sp + 1 + 1 + 1).toNat))
          p := withFlag (statusPulled (s.ram.read (256 + (s.cpu.sp + 1).toNat))) .unused true } } := by
  simp only [returnFromException, pullWord, pull_eq]
  unfold State.setPc
  dsimp only
  rfl

/-- What one fetch and execution can do: an opcode without a row is recorded as the fault, any other runs its instruction
(40_cycle_and_addressing.md R171, 60_exceptions.md R310). -/
theorem executeInstruction_cases {s : State} {o : Host.Outcome State Fault Refusal} (h : executeInstruction s = o) :
    let op := fetchByte (s.setP s.cpu.p)
    (lookupOpcode op.1 = none ∧ o = .next (raiseFault (.illegalOpcode op.1 s.cpu.pc) op.2)) ∨
    ∃ row, lookupOpcode op.1 = some row ∧ o = exec (readOperands row.form op.2).1 (readOperands row.form op.2).2 := by
  subst h
  intro op
  unfold executeInstruction
  cases hl : lookupOpcode op.1 with
  | none =>
    refine .inl ⟨rfl, ?_⟩
    change (match lookupOpcode op.1 with | none => _ | some row => _) = _
    rw [hl]
  | some row =>
    refine .inr ⟨row, rfl, ?_⟩
    change (match lookupOpcode op.1 with | none => _ | some row => _) = _
    rw [hl]

/-- What one CPU clock that has a next state can do (40_cycle_and_addressing.md R170). -/
theorem cpuClock_cases {s t : State} (h : cpuClock s = .next t) :
    (s.fault.isSome = true ∧ t = s) ∨
    (s.fault = none ∧ 0 < s.cpu.cycles ∧ t = countDown s) ∨
    (s.fault = none ∧ s.cpu.cycles = 0 ∧ irqAsserted s.params.irqLine s.tick = true ∧ s.flag .interruptDisable = false ∧
      t = countDown (interruptEntry irqVector s.params.irqCycles s)) ∨
    (s.fault = none ∧ s.cpu.cycles = 0 ∧ ¬ (irqAsserted s.params.irqLine s.tick = true ∧ s.flag .interruptDisable = false) ∧
      ∃ u, executeInstruction s = .next u ∧ t = afterIdleWork u) := by
  unfold cpuClock at h
  by_cases hf : s.fault.isSome = true
  · rw [if_pos hf] at h
    exact .inl ⟨hf, (Host.Outcome.next.inj h).symm⟩
  · rw [if_neg hf] at h
    have hf' : s.fault = none := by simpa using hf
    by_cases hc : s.cpu.cycles = 0
    · rw [if_pos hc] at h
      split at h
      · rename_i hi
        have hi' : irqAsserted s.params.irqLine s.tick = true ∧ s.flag .interruptDisable = false := by simpa using hi
        refine .inr (.inr (.inl ⟨hf', hc, hi'.1, hi'.2, ?_⟩))
        rw [← Host.Outcome.next.inj h, irqEntry, hi'.2]
        rfl
      · rename_i hi
        refine .inr (.inr (.inr ⟨hf', hc, by simpa using hi, ?_⟩))
        split at h
        · rename_i u hu
          exact ⟨u, hu, (Host.Outcome.next.inj h).symm⟩
        · simp at h
        · simp at h
    · rw [if_neg hc] at h
      exact .inr (.inl ⟨hf', by omega, (Host.Outcome.next.inj h).symm⟩)

/-- What one step that has a next state can do (61_system_clock.md R341, R342). -/
theorem step_cases {s t : State} (h : step s = .next t) :
    s.canClock = true ∧
      ((s.fault.isSome = true ∧ t = s) ∨
      (s.fault = none ∧ s.tick % 3 ≠ 0 ∧ t = endTick (tickPpu s)) ∨
      (s.fault = none ∧ s.tick % 3 = 0 ∧ ∃ u, cpuClock (tickPpu s) = .next u ∧ t = afterCpu u)) := by
  unfold step clock at h
  split at h
  · simp at h
  · rename_i hc
    refine ⟨by simpa using hc, ?_⟩
    split at h
    · rename_i hf
      exact .inl ⟨hf, (Host.Outcome.next.inj h).symm⟩
    · rename_i hf
      have hf' : s.fault = none := by simpa using hf
      dsimp only at h
      split at h
      · rename_i ht
        refine .inr (.inr ⟨hf', ht, ?_⟩)
        split at h
        · rename_i u hu
          exact ⟨u, hu, (Host.Outcome.next.inj h).symm⟩
        · simp at h
        · simp at h
      · rename_i ht
        exact .inr (.inl ⟨hf', ht, (Host.Outcome.next.inj h).symm⟩)

end Sys2Proof.Machine
end

