-- ==== Sys2Proof/Tests/Slice0.lean ====
section
/-! SUPPORT. Tests: ill-formed terms refused, every row decoded, the vectors of 95_test_vectors.md one step each, and a witness
for every statement's hypotheses. -/

namespace Sys2Proof.Tests

open Sys2Proof.Machine

/-! ### Well-formedness: each check refuses its ill-formed term -/

theorem test_default_params_wellFormed : Params.default.wellFormed = true := by decide

theorem test_zero_cycle_base_refused : { Params.default with cycleBase := [(0xEA, 0)] }.wellFormed = false := by decide

theorem test_zero_reset_cycles_refused : { Params.default with resetCycles := 0 }.wellFormed = false := by decide

theorem test_zero_irq_cycles_refused : { Params.default with irqCycles := 0 }.wellFormed = false := by decide

theorem test_zero_nmi_cycles_refused : { Params.default with nmiCycles := 0 }.wellFormed = false := by decide

/-! ### Decoding: one word of every row, written from opcode_table.json and 30_encoding.md R150, R151, R153; operand bytes 0x34,
0x12 -/

theorem test_decode_adc :
    decode [0x61, 0x34] = some (.adcIzx 0x34, []) ∧
    decode [0x65, 0x34] = some (.adcZp0 0x34, []) ∧
    decode [0x69, 0x34] = some (.adcImm 0x34, []) ∧
    decode [0x6D, 0x34, 0x12] = some (.adcAbs 0x1234, []) ∧
    decode [0x71, 0x34] = some (.adcIzy 0x34, []) ∧
    decode [0x75, 0x34] = some (.adcZpx 0x34, []) ∧
    decode [0x79, 0x34, 0x12] = some (.adcAby 0x1234, []) ∧
    decode [0x7D, 0x34, 0x12] = some (.adcAbx 0x1234, []) := by
  decide

theorem test_decode_and :
    decode [0x21, 0x34] = some (.andIzx 0x34, []) ∧
    decode [0x25, 0x34] = some (.andZp0 0x34, []) ∧
    decode [0x29, 0x34] = some (.andImm 0x34, []) ∧
    decode [0x2D, 0x34, 0x12] = some (.andAbs 0x1234, []) ∧
    decode [0x31, 0x34] = some (.andIzy 0x34, []) ∧
    decode [0x35, 0x34] = some (.andZpx 0x34, []) ∧
    decode [0x39, 0x34, 0x12] = some (.andAby 0x1234, []) ∧
    decode [0x3D, 0x34, 0x12] = some (.andAbx 0x1234, []) := by
  decide

theorem test_decode_asl :
    decode [0x06, 0x34] = some (.aslZp0 0x34, []) ∧
    decode [0x0A] = some (.aslAcc, []) ∧
    decode [0x0E, 0x34, 0x12] = some (.aslAbs 0x1234, []) ∧
    decode [0x16, 0x34] = some (.aslZpx 0x34, []) ∧
    decode [0x1E, 0x34, 0x12] = some (.aslAbx 0x1234, []) := by
  decide

theorem test_decode_bcc :
    decode [0x90, 0x34] = some (.bcc 0x34, []) := by
  decide

theorem test_decode_bcs :
    decode [0xB0, 0x34] = some (.bcs 0x34, []) := by
  decide

theorem test_decode_beq :
    decode [0xF0, 0x34] = some (.beq 0x34, []) := by
  decide

theorem test_decode_bit :
    decode [0x24, 0x34] = some (.bitZp0 0x34, []) ∧
    decode [0x2C, 0x34, 0x12] = some (.bitAbs 0x1234, []) := by
  decide

theorem test_decode_bmi :
    decode [0x30, 0x34] = some (.bmi 0x34, []) := by
  decide

theorem test_decode_bne :
    decode [0xD0, 0x34] = some (.bne 0x34, []) := by
  decide

theorem test_decode_bpl :
    decode [0x10, 0x34] = some (.bpl 0x34, []) := by
  decide

theorem test_decode_brk :
    decode [0x00, 0x34] = some (.brk, []) := by
  decide

theorem test_decode_bvc :
    decode [0x50, 0x34] = some (.bvc 0x34, []) := by
  decide

theorem test_decode_bvs :
    decode [0x70, 0x34] = some (.bvs 0x34, []) := by
  decide

theorem test_decode_clc :
    decode [0x18] = some (.clc, []) := by
  decide

theorem test_decode_cld :
    decode [0xD8] = some (.cld, []) := by
  decide

theorem test_decode_cli :
    decode [0x58] = some (.cli, []) := by
  decide

theorem test_decode_clv :
    decode [0xB8] = some (.clv, []) := by
  decide

theorem test_decode_cmp :
    decode [0xC1, 0x34] = some (.cmpIzx 0x34, []) ∧
    decode [0xC5, 0x34] = some (.cmpZp0 0x34, []) ∧
    decode [0xC9, 0x34] = some (.cmpImm 0x34, []) ∧
    decode [0xCD, 0x34, 0x12] = some (.cmpAbs 0x1234, []) ∧
    decode [0xD1, 0x34] = some (.cmpIzy 0x34, []) ∧
    decode [0xD5, 0x34] = some (.cmpZpx 0x34, []) ∧
    decode [0xD9, 0x34, 0x12] = some (.cmpAby 0x1234, []) ∧
    decode [0xDD, 0x34, 0x12] = some (.cmpAbx 0x1234, []) := by
  decide

theorem test_decode_cpx :
    decode [0xE0, 0x34] = some (.cpxImm 0x34, []) ∧
    decode [0xE4, 0x34] = some (.cpxZp0 0x34, []) ∧
    decode [0xEC, 0x34, 0x12] = some (.cpxAbs 0x1234, []) := by
  decide

theorem test_decode_cpy :
    decode [0xC0, 0x34] = some (.cpyImm 0x34, []) ∧
    decode [0xC4, 0x34] = some (.cpyZp0 0x34, []) ∧
    decode [0xCC, 0x34, 0x12] = some (.cpyAbs 0x1234, []) := by
  decide

theorem test_decode_dec :
    decode [0xC6, 0x34] = some (.decZp0 0x34, []) ∧
    decode [0xCE, 0x34, 0x12] = some (.decAbs 0x1234, []) ∧
    decode [0xD6, 0x34] = some (.decZpx 0x34, []) ∧
    decode [0xDE, 0x34, 0x12] = some (.decAbx 0x1234, []) := by
  decide

theorem test_decode_dex :
    decode [0xCA] = some (.dex, []) := by
  decide

theorem test_decode_dey :
    decode [0x88] = some (.dey, []) := by
  decide

theorem test_decode_eor :
    decode [0x41, 0x34] = some (.eorIzx 0x34, []) ∧
    decode [0x45, 0x34] = some (.eorZp0 0x34, []) ∧
    decode [0x49, 0x34] = some (.eorImm 0x34, []) ∧
    decode [0x4D, 0x34, 0x12] = some (.eorAbs 0x1234, []) ∧
    decode [0x51, 0x34] = some (.eorIzy 0x34, []) ∧
    decode [0x55, 0x34] = some (.eorZpx 0x34, []) ∧
    decode [0x59, 0x34, 0x12] = some (.eorAby 0x1234, []) ∧
    decode [0x5D, 0x34, 0x12] = some (.eorAbx 0x1234, []) := by
  decide

theorem test_decode_inc :
    decode [0xE6, 0x34] = some (.incZp0 0x34, []) ∧
    decode [0xEE, 0x34, 0x12] = some (.incAbs 0x1234, []) ∧
    decode [0xF6, 0x34] = some (.incZpx 0x34, []) ∧
    decode [0xFE, 0x34, 0x12] = some (.incAbx 0x1234, []) := by
  decide

theorem test_decode_inx :
    decode [0xE8] = some (.inx, []) := by
  decide

theorem test_decode_iny :
    decode [0xC8] = some (.iny, []) := by
  decide

theorem test_decode_jmp :
    decode [0x4C, 0x34, 0x12] = some (.jmpAbs 0x1234, []) ∧
    decode [0x6C, 0x34, 0x12] = some (.jmpInd 0x1234, []) := by
  decide

theorem test_decode_jsr :
    decode [0x20, 0x34, 0x12] = some (.jsr 0x1234, []) := by
  decide

theorem test_decode_lda :
    decode [0xA1, 0x34] = some (.ldaIzx 0x34, []) ∧
    decode [0xA5, 0x34] = some (.ldaZp0 0x34, []) ∧
    decode [0xA9, 0x34] = some (.ldaImm 0x34, []) ∧
    decode [0xAD, 0x34, 0x12] = some (.ldaAbs 0x1234, []) ∧
    decode [0xB1, 0x34] = some (.ldaIzy 0x34, []) ∧
    decode [0xB5, 0x34] = some (.ldaZpx 0x34, []) ∧
    decode [0xB9, 0x34, 0x12] = some (.ldaAby 0x1234, []) ∧
    decode [0xBD, 0x34, 0x12] = some (.ldaAbx 0x1234, []) := by
  decide

theorem test_decode_ldx :
    decode [0xA2, 0x34] = some (.ldxImm 0x34, []) ∧
    decode [0xA6, 0x34] = some (.ldxZp0 0x34, []) ∧
    decode [0xAE, 0x34, 0x12] = some (.ldxAbs 0x1234, []) ∧
    decode [0xB6, 0x34] = some (.ldxZpy 0x34, []) ∧
    decode [0xBE, 0x34, 0x12] = some (.ldxAby 0x1234, []) := by
  decide

theorem test_decode_ldy :
    decode [0xA0, 0x34] = some (.ldyImm 0x34, []) ∧
    decode [0xA4, 0x34] = some (.ldyZp0 0x34, []) ∧
    decode [0xAC, 0x34, 0x12] = some (.ldyAbs 0x1234, []) ∧
    decode [0xB4, 0x34] = some (.ldyZpx 0x34, []) ∧
    decode [0xBC, 0x34, 0x12] = some (.ldyAbx 0x1234, []) := by
  decide

theorem test_decode_lsr :
    decode [0x46, 0x34] = some (.lsrZp0 0x34, []) ∧
    decode [0x4A] = some (.lsrAcc, []) ∧
    decode [0x4E, 0x34, 0x12] = some (.lsrAbs 0x1234, []) ∧
    decode [0x56, 0x34] = some (.lsrZpx 0x34, []) ∧
    decode [0x5E, 0x34, 0x12] = some (.lsrAbx 0x1234, []) := by
  decide

theorem test_decode_nop :
    decode [0xEA] = some (.nop, []) := by
  decide

theorem test_decode_ora :
    decode [0x01, 0x34] = some (.oraIzx 0x34, []) ∧
    decode [0x05, 0x34] = some (.oraZp0 0x34, []) ∧
    decode [0x09, 0x34] = some (.oraImm 0x34, []) ∧
    decode [0x0D, 0x34, 0x12] = some (.oraAbs 0x1234, []) ∧
    decode [0x11, 0x34] = some (.oraIzy 0x34, []) ∧
    decode [0x15, 0x34] = some (.oraZpx 0x34, []) ∧
    decode [0x19, 0x34, 0x12] = some (.oraAby 0x1234, []) ∧
    decode [0x1D, 0x34, 0x12] = some (.oraAbx 0x1234, []) := by
  decide

theorem test_decode_pha :
    decode [0x48] = some (.pha, []) := by
  decide

theorem test_decode_php :
    decode [0x08] = some (.php, []) := by
  decide

theorem test_decode_pla :
    decode [0x68] = some (.pla, []) := by
  decide

theorem test_decode_plp :
    decode [0x28] = some (.plp, []) := by
  decide

theorem test_decode_rol :
    decode [0x26, 0x34] = some (.rolZp0 0x34, []) ∧
    decode [0x2A] = some (.rolAcc, []) ∧
    decode [0x2E, 0x34, 0x12] = some (.rolAbs 0x1234, []) ∧
    decode [0x36, 0x34] = some (.rolZpx 0x34, []) ∧
    decode [0x3E, 0x34, 0x12] = some (.rolAbx 0x1234, []) := by
  decide

theorem test_decode_ror :
    decode [0x66, 0x34] = some (.rorZp0 0x34, []) ∧
    decode [0x6A] = some (.rorAcc, []) ∧
    decode [0x6E, 0x34, 0x12] = some (.rorAbs 0x1234, []) ∧
    decode [0x76, 0x34] = some (.rorZpx 0x34, []) ∧
    decode [0x7E, 0x34, 0x12] = some (.rorAbx 0x1234, []) := by
  decide

theorem test_decode_rti :
    decode [0x40] = some (.rti, []) := by
  decide

theorem test_decode_rts :
    decode [0x60] = some (.rts, []) := by
  decide

theorem test_decode_sbc :
    decode [0xE1, 0x34] = some (.sbcIzx 0x34, []) ∧
    decode [0xE5, 0x34] = some (.sbcZp0 0x34, []) ∧
    decode [0xE9, 0x34] = some (.sbcImm 0x34, []) ∧
    decode [0xED, 0x34, 0x12] = some (.sbcAbs 0x1234, []) ∧
    decode [0xF1, 0x34] = some (.sbcIzy 0x34, []) ∧
    decode [0xF5, 0x34] = some (.sbcZpx 0x34, []) ∧
    decode [0xF9, 0x34, 0x12] = some (.sbcAby 0x1234, []) ∧
    decode [0xFD, 0x34, 0x12] = some (.sbcAbx 0x1234, []) := by
  decide

theorem test_decode_sec :
    decode [0x38] = some (.sec, []) := by
  decide

theorem test_decode_sed :
    decode [0xF8] = some (.sed, []) := by
  decide

theorem test_decode_sei :
    decode [0x78] = some (.sei, []) := by
  decide

theorem test_decode_sta :
    decode [0x81, 0x34] = some (.staIzx 0x34, []) ∧
    decode [0x85, 0x34] = some (.staZp0 0x34, []) ∧
    decode [0x8D, 0x34, 0x12] = some (.staAbs 0x1234, []) ∧
    decode [0x91, 0x34] = some (.staIzy 0x34, []) ∧
    decode [0x95, 0x34] = some (.staZpx 0x34, []) ∧
    decode [0x99, 0x34, 0x12] = some (.staAby 0x1234, []) ∧
    decode [0x9D, 0x34, 0x12] = some (.staAbx 0x1234, []) := by
  decide

theorem test_decode_stx :
    decode [0x86, 0x34] = some (.stxZp0 0x34, []) ∧
    decode [0x8E, 0x34, 0x12] = some (.stxAbs 0x1234, []) ∧
    decode [0x96, 0x34] = some (.stxZpy 0x34, []) := by
  decide

theorem test_decode_sty :
    decode [0x84, 0x34] = some (.styZp0 0x34, []) ∧
    decode [0x8C, 0x34, 0x12] = some (.styAbs 0x1234, []) ∧
    decode [0x94, 0x34] = some (.styZpx 0x34, []) := by
  decide

theorem test_decode_tax :
    decode [0xAA] = some (.tax, []) := by
  decide

theorem test_decode_tay :
    decode [0xA8] = some (.tay, []) := by
  decide

theorem test_decode_tsx :
    decode [0xBA] = some (.tsx, []) := by
  decide

theorem test_decode_txa :
    decode [0x8A] = some (.txa, []) := by
  decide

theorem test_decode_txs :
    decode [0x9A] = some (.txs, []) := by
  decide

theorem test_decode_tya :
    decode [0x98] = some (.tya, []) := by
  decide


theorem test_illegal_opcodes_refused :
    decode [0x02, 0, 0] = none ∧ decode [0x1A, 0, 0] = none ∧ decode [0xFF, 0, 0] = none ∧ decode [] = none ∧
      decode [0xA9] = none ∧ decode [0xAD, 0x34] = none := by
  decide

theorem test_decodeTableWord :
    decodeTableWord 16 0x0000 = some .brk ∧ decodeTableWord 24 0x1234BD = some (.ldaAbx 0x1234) ∧
      decodeTableWord 8 0xEA = some .nop ∧ decodeTableWord 8 0x02 = none := by
  decide

/-! ### One step of each instruction: the vectors of 95_test_vectors.md -/

/-- A, X, Y, SP, P, PC. -/
structure Regs where
  a  : Byte
  x  : Byte
  y  : Byte
  sp : Byte
  p  : Byte
  pc : Word
  deriving DecidableEq, Repr

/-- The machine of the vectors' conventions: PRG and RAM as listed, `cycles` 0. -/
def start (prg ram : Memory) (r : Regs) : State :=
  { State.reset with
    ram := ram
    cart := { Cart.blank with prg := prg }
    cpu := { State.reset.cpu with
      a := r.a
      x := r.x
      y := r.y
      sp := r.sp
      p := r.p
      pc := r.pc
      cycles := 0 } }

/-- The state an outcome goes on in. -/
def nextOf (o : Host.Outcome State Fault Refusal) : Option State :=
  match o with
  | .next t => some t
  | .fault _ => none
  | .refused _ => none

theorem next_of_nextOf {o : Host.Outcome State Fault Refusal} (h : (nextOf o).isSome = true) : ∃ t, o = .next t := by
  cases o with
  | next t => exact ⟨t, rfl⟩
  | fault r => simp [nextOf] at h
  | refused r => simp [nextOf] at h

/-- The registers after one step, and the instruction's count: the step itself has counted one clock of it. -/
def ends (s : State) : Option (Regs × Nat) :=
  (nextOf (step s)).map (fun t => (⟨t.cpu.a, t.cpu.x, t.cpu.y, t.cpu.sp, t.cpu.p, t.cpu.pc⟩, t.cpu.cycles + 1))

/-- RAM cells after one step. -/
def cells (s : State) (l : List Nat) : List Byte := l.map (fun a => ((nextOf (step s)).map (fun t => t.ram.read a)).getD 0xEE)

/-- V-AR-3. -/
theorem test_adc_two_negatives :
    ends (start [(0x0000, 0x69), (0x0001, 0xFF)] [] ⟨0x80, 0x00, 0x00, 0xFD, 0x20, 0x8000⟩) =
      some (⟨0x7F, 0x00, 0x00, 0xFD, 0x61, 0x8002⟩, 2) := by
  decide

/-- V-AR-10. -/
theorem test_adc_absolute_x_crosses :
    ends (start [(0x0000, 0x7D), (0x0001, 0xF0), (0x0002, 0x02)] [(0x0310, 0x01)] ⟨0x01, 0x20, 0x00, 0xFD, 0x20, 0x8000⟩) =
      some (⟨0x02, 0x20, 0x00, 0xFD, 0x20, 0x8003⟩, 5) := by
  decide

/-- V-AR-6. -/
theorem test_sbc_overflows :
    ends (start [(0x0000, 0xE9), (0x0001, 0xB0)] [] ⟨0x50, 0x00, 0x00, 0xFD, 0x21, 0x8000⟩) =
      some (⟨0xA0, 0x00, 0x00, 0xFD, 0xE0, 0x8002⟩, 2) := by
  decide

/-- W3. -/
theorem test_sbc_borrows :
    ends (start [(0x0000, 0xE5), (0x0001, 0x10)] [(0x0010, 0x01)] ⟨0x00, 0x00, 0x00, 0xFD, 0x21, 0x8000⟩) =
      some (⟨0xFF, 0x00, 0x00, 0xFD, 0xA0, 0x8002⟩, 3) := by
  decide

/-- V-LG-1. -/
theorem test_and_zero :
    ends (start [(0x0000, 0x29), (0x0001, 0x0F)] [] ⟨0xF0, 0x00, 0x00, 0xFD, 0x20, 0x8000⟩) =
      some (⟨0x00, 0x00, 0x00, 0xFD, 0x22, 0x8002⟩, 2) := by
  decide

/-- V-LG-2. -/
theorem test_ora_zero :
    ends (start [(0x0000, 0x09)] [] ⟨0x00, 0x00, 0x00, 0xFD, 0x20, 0x8000⟩) =
      some (⟨0x00, 0x00, 0x00, 0xFD, 0x22, 0x8002⟩, 2) := by
  decide

/-- V-LG-3. -/
theorem test_eor_complement :
    ends (start [(0x0000, 0x49), (0x0001, 0xFF)] [] ⟨0x55, 0x00, 0x00, 0xFD, 0x20, 0x8000⟩) =
      some (⟨0xAA, 0x00, 0x00, 0xFD, 0xA0, 0x8002⟩, 2) := by
  decide

/-- V-LG-5. -/
theorem test_bit_flags_of_memory :
    ends (start [(0x0000, 0x24), (0x0001, 0x10)] [(0x0010, 0xFF)] ⟨0x00, 0x00, 0x00, 0xFD, 0x20, 0x8000⟩) =
      some (⟨0x00, 0x00, 0x00, 0xFD, 0xE2, 0x8002⟩, 3) := by
  decide

/-- V-LG-6. -/
theorem test_bit_absolute :
    ends (start [(0x0000, 0x2C), (0x0002, 0x02)] [(0x0200, 0x41)] ⟨0x01, 0x00, 0x00, 0xFD, 0x20, 0x8000⟩) =
      some (⟨0x01, 0x00, 0x00, 0xFD, 0x60, 0x8003⟩, 4) := by
  decide

/-- V-AM-10. -/
theorem test_inc_absolute_x_no_extra_cycle :
    ends (start [(0x0000, 0xFE), (0x0001, 0xF0), (0x0002, 0x02)] [] ⟨0x00, 0x20, 0x00, 0xFD, 0x20, 0x8000⟩) =
      some (⟨0x00, 0x20, 0x00, 0xFD, 0x20, 0x8003⟩, 7) ∧
    cells (start [(0x0000, 0xFE), (0x0001, 0xF0), (0x0002, 0x02)] [] ⟨0x00, 0x20, 0x00, 0xFD, 0x20, 0x8000⟩) [0x0310] =
      [0x01] := by
  decide

/-- V-ID-3. -/
theorem test_inc_wraps :
    ends (start [(0x0000, 0xE6), (0x0001, 0x10)] [(0x0010, 0xFF)] ⟨0x00, 0x00, 0x00, 0xFD, 0x21, 0x8000⟩) =
      some (⟨0x00, 0x00, 0x00, 0xFD, 0x23, 0x8002⟩, 5) ∧
    cells (start [(0x0000, 0xE6), (0x0001, 0x10)] [(0x0010, 0xFF)] ⟨0x00, 0x00, 0x00, 0xFD, 0x21, 0x8000⟩) [0x0010] =
      [0x00] := by
  decide

/-- V-ID-2. -/
theorem test_dec_to_zero :
    ends (start [(0x0000, 0xC6), (0x0001, 0x10)] [(0x0010, 0x01)] ⟨0x00, 0x00, 0x00, 0xFD, 0x20, 0x8000⟩) =
      some (⟨0x00, 0x00, 0x00, 0xFD, 0x22, 0x8002⟩, 5) ∧
    cells (start [(0x0000, 0xC6), (0x0001, 0x10)] [(0x0010, 0x01)] ⟨0x00, 0x00, 0x00, 0xFD, 0x20, 0x8000⟩) [0x0010] =
      [0x00] := by
  decide

/-- V-ID-6. -/
theorem test_inx_to_negative :
    ends (start [(0x0000, 0xE8)] [] ⟨0x00, 0x7F, 0x00, 0xFD, 0x20, 0x8000⟩) =
      some (⟨0x00, 0x80, 0x00, 0xFD, 0xA0, 0x8001⟩, 2) := by
  decide

/-- V-ID-4. -/
theorem test_iny_wraps :
    ends (start [(0x0000, 0xC8)] [] ⟨0x00, 0x00, 0xFF, 0xFD, 0x20, 0x8000⟩) =
      some (⟨0x00, 0x00, 0x00, 0xFD, 0x22, 0x8001⟩, 2) := by
  decide

/-- V-ID-5. -/
theorem test_dex_wraps :
    ends (start [(0x0000, 0xCA)] [] ⟨0x00, 0x00, 0x00, 0xFD, 0x20, 0x8000⟩) =
      some (⟨0x00, 0xFF, 0x00, 0xFD, 0xA0, 0x8001⟩, 2) := by
  decide

/-- V-ID-7. -/
theorem test_dey_to_zero :
    ends (start [(0x0000, 0x88)] [] ⟨0x00, 0x00, 0x01, 0xFD, 0x20, 0x8000⟩) =
      some (⟨0x00, 0x00, 0x00, 0xFD, 0x22, 0x8001⟩, 2) := by
  decide

/-- V-CP-3. -/
theorem test_cmp_wide_difference :
    ends (start [(0x0000, 0xC9), (0x0001, 0x01)] [] ⟨0x80, 0x00, 0x00, 0xFD, 0x20, 0x8000⟩) =
      some (⟨0x80, 0x00, 0x00, 0xFD, 0x21, 0x8002⟩, 2) := by
  decide

/-- V-CP-6. -/
theorem test_cmp_absolute_y_crosses :
    ends (start [(0x0000, 0xD9), (0x0001, 0xF0), (0x0002, 0x02)] [(0x0310, 0x05)] ⟨0x05, 0x00, 0x20, 0xFD, 0x20, 0x8000⟩) =
      some (⟨0x05, 0x00, 0x20, 0xFD, 0x23, 0x8003⟩, 5) := by
  decide

/-- V-CP-4. -/
theorem test_cpx_below :
    ends (start [(0x0000, 0xE0), (0x0001, 0xFF)] [] ⟨0x00, 0x00, 0x00, 0xFD, 0x20, 0x8000⟩) =
      some (⟨0x00, 0x00, 0x00, 0xFD, 0x20, 0x8002⟩, 2) := by
  decide

/-- V-CP-5. -/
theorem test_cpy_equal :
    ends (start [(0x0000, 0xC4), (0x0001, 0x10)] [(0x0010, 0x40)] ⟨0x00, 0x00, 0x40, 0xFD, 0x20, 0x8000⟩) =
      some (⟨0x00, 0x00, 0x40, 0xFD, 0x23, 0x8002⟩, 3) := by
  decide

/-- V-SH-1. -/
theorem test_asl_carries_out :
    ends (start [(0x0000, 0x0A)] [] ⟨0x80, 0x00, 0x00, 0xFD, 0x20, 0x8000⟩) =
      some (⟨0x00, 0x00, 0x00, 0xFD, 0x23, 0x8001⟩, 2) := by
  decide

/-- V-SH-7. -/
theorem test_asl_absolute_x_no_extra_cycle :
    ends (start [(0x0000, 0x1E), (0x0001, 0xF0), (0x0002, 0x02)] [(0x0310, 0x01)] ⟨0x00, 0x20, 0x00, 0xFD, 0x20, 0x8000⟩) =
      some (⟨0x00, 0x20, 0x00, 0xFD, 0x20, 0x8003⟩, 7) ∧
    cells (start [(0x0000, 0x1E), (0x0001, 0xF0), (0x0002, 0x02)] [(0x0310, 0x01)] ⟨0x00, 0x20, 0x00, 0xFD, 0x20, 0x8000⟩) [0x0310] =
      [0x02] := by
  decide

/-- V-SH-8. -/
theorem test_lsr_clears_negative :
    ends (start [(0x0000, 0x4A)] [] ⟨0xFF, 0x00, 0x00, 0xFD, 0xA0, 0x8000⟩) =
      some (⟨0x7F, 0x00, 0x00, 0xFD, 0x21, 0x8001⟩, 2) := by
  decide

/-- V-SH-3. -/
theorem test_rol_takes_old_carry :
    ends (start [(0x0000, 0x2A)] [] ⟨0x80, 0x00, 0x00, 0xFD, 0x20, 0x8000⟩) =
      some (⟨0x00, 0x00, 0x00, 0xFD, 0x23, 0x8001⟩, 2) := by
  decide

/-- V-SH-4. -/
theorem test_ror_takes_old_carry :
    ends (start [(0x0000, 0x6A)] [] ⟨0x01, 0x00, 0x00, 0xFD, 0x21, 0x8000⟩) =
      some (⟨0x80, 0x00, 0x00, 0xFD, 0xA1, 0x8001⟩, 2) := by
  decide

/-- V-SH-6. -/
theorem test_ror_zero_page_x :
    ends (start [(0x0000, 0x76), (0x0001, 0x10)] [(0x0010, 0x02)] ⟨0x00, 0x00, 0x00, 0xFD, 0x21, 0x8000⟩) =
      some (⟨0x00, 0x00, 0x00, 0xFD, 0xA0, 0x8002⟩, 6) ∧
    cells (start [(0x0000, 0x76), (0x0001, 0x10)] [(0x0010, 0x02)] ⟨0x00, 0x00, 0x00, 0xFD, 0x21, 0x8000⟩) [0x0010] =
      [0x81] := by
  decide

/-- V-ST-1. -/
theorem test_pha_wraps :
    ends (start [(0x0000, 0x48)] [] ⟨0x77, 0x00, 0x00, 0x00, 0x20, 0x8000⟩) =
      some (⟨0x77, 0x00, 0x00, 0xFF, 0x20, 0x8001⟩, 3) ∧
    cells (start [(0x0000, 0x48)] [] ⟨0x77, 0x00, 0x00, 0x00, 0x20, 0x8000⟩) [0x0100] =
      [0x77] := by
  decide

/-- V-ST-2. -/
theorem test_pla_wraps :
    ends (start [(0x0000, 0x68)] [(0x0100, 0x80)] ⟨0x00, 0x00, 0x00, 0xFF, 0x20, 0x8000⟩) =
      some (⟨0x80, 0x00, 0x00, 0x00, 0xA0, 0x8001⟩, 4) := by
  decide

/-- V-ST-4. -/
theorem test_php_pushes_break :
    ends (start [(0x0000, 0x08)] [] ⟨0x00, 0x00, 0x00, 0xFD, 0xE3, 0x8000⟩) =
      some (⟨0x00, 0x00, 0x00, 0xFC, 0xE3, 0x8001⟩, 3) ∧
    cells (start [(0x0000, 0x08)] [] ⟨0x00, 0x00, 0x00, 0xFD, 0xE3, 0x8000⟩) [0x01FD] =
      [0xF3] := by
  decide

/-- V-ST-5. -/
theorem test_plp_clears_break :
    ends (start [(0x0000, 0x28)] [(0x01FD, 0xFF)] ⟨0x00, 0x00, 0x00, 0xFC, 0x20, 0x8000⟩) =
      some (⟨0x00, 0x00, 0x00, 0xFD, 0xEF, 0x8001⟩, 4) := by
  decide

/-- V-AM-5. -/
theorem test_lda_indirect_y_crosses :
    ends (start [(0x0000, 0xB1), (0x0001, 0x10)] [(0x0010, 0xF0), (0x0011, 0x02), (0x0310, 0x5C)] ⟨0x00, 0x00, 0x20, 0xFD, 0x20, 0x8000⟩) =
      some (⟨0x5C, 0x00, 0x20, 0xFD, 0x20, 0x8002⟩, 6) := by
  decide

/-- V-AM-6. -/
theorem test_lda_indirect_x_pointer_wraps :
    ends (start [(0x0000, 0xA1), (0x0001, 0xFF)] [(0x0000, 0x02), (0x00FF, 0x34), (0x0234, 0x11)] ⟨0x00, 0x00, 0x00, 0xFD, 0x20, 0x8000⟩) =
      some (⟨0x11, 0x00, 0x00, 0xFD, 0x20, 0x8002⟩, 6) := by
  decide

/-- V-AM-1. -/
theorem test_ldx_zero_page_y_wraps :
    ends (start [(0x0000, 0xB6), (0x0001, 0xFF)] [(0x0001, 0x99)] ⟨0x00, 0x00, 0x02, 0xFD, 0x20, 0x8000⟩) =
      some (⟨0x00, 0x99, 0x02, 0xFD, 0xA0, 0x8002⟩, 4) := by
  decide

/-- V-LS-4. -/
theorem test_ldy_zero :
    ends (start [(0x0000, 0xAC), (0x0002, 0x02)] [] ⟨0x00, 0x00, 0x05, 0xFD, 0x20, 0x8000⟩) =
      some (⟨0x00, 0x00, 0x00, 0xFD, 0x22, 0x8003⟩, 4) := by
  decide

/-- V-AM-9. -/
theorem test_sta_absolute_x_no_extra_cycle :
    ends (start [(0x0000, 0x9D), (0x0001, 0xF0), (0x0002, 0x02)] [] ⟨0xAB, 0x20, 0x00, 0xFD, 0x20, 0x8000⟩) =
      some (⟨0xAB, 0x20, 0x00, 0xFD, 0x20, 0x8003⟩, 5) ∧
    cells (start [(0x0000, 0x9D), (0x0001, 0xF0), (0x0002, 0x02)] [] ⟨0xAB, 0x20, 0x00, 0xFD, 0x20, 0x8000⟩) [0x0310] =
      [0xAB] := by
  decide

/-- W6. -/
theorem test_sta_oam_dma_stall :
    ends (start [(0x0000, 0x8D), (0x0001, 0x14), (0x0002, 0x40)] [(0x0300, 0x07)] ⟨0x03, 0x00, 0x00, 0xFD, 0x20, 0x8000⟩) =
      some (⟨0x03, 0x00, 0x00, 0xFD, 0x20, 0x8003⟩, 517) := by
  decide

/-- V-LS-5. -/
theorem test_stx_sets_no_flag :
    ends (start [(0x0000, 0x86), (0x0001, 0x10)] [] ⟨0x00, 0x5A, 0x00, 0xFD, 0x20, 0x8000⟩) =
      some (⟨0x00, 0x5A, 0x00, 0xFD, 0x20, 0x8002⟩, 3) ∧
    cells (start [(0x0000, 0x86), (0x0001, 0x10)] [] ⟨0x00, 0x5A, 0x00, 0xFD, 0x20, 0x8000⟩) [0x0010] =
      [0x5A] := by
  decide

/-- V-AM-11. -/
theorem test_sty_zero_page_x_wraps :
    ends (start [(0x0000, 0x94), (0x0001, 0x10)] [] ⟨0x00, 0xF5, 0x3C, 0xFD, 0x20, 0x8000⟩) =
      some (⟨0x00, 0xF5, 0x3C, 0xFD, 0x20, 0x8002⟩, 4) ∧
    cells (start [(0x0000, 0x94), (0x0001, 0x10)] [] ⟨0x00, 0xF5, 0x3C, 0xFD, 0x20, 0x8000⟩) [0x0005] =
      [0x3C] := by
  decide

/-- V-LS-6. -/
theorem test_tax_zero :
    ends (start [(0x0000, 0xAA)] [] ⟨0x00, 0x07, 0x00, 0xFD, 0x20, 0x8000⟩) =
      some (⟨0x00, 0x00, 0x00, 0xFD, 0x22, 0x8001⟩, 2) := by
  decide

/-- V-LS-7. -/
theorem test_tay_negative :
    ends (start [(0x0000, 0xA8)] [] ⟨0x80, 0x00, 0x00, 0xFD, 0x20, 0x8000⟩) =
      some (⟨0x80, 0x00, 0x80, 0xFD, 0xA0, 0x8001⟩, 2) := by
  decide

/-- V-LS-8. -/
theorem test_txa :
    ends (start [(0x0000, 0x8A)] [] ⟨0x00, 0x7F, 0x00, 0xFD, 0x20, 0x8000⟩) =
      some (⟨0x7F, 0x7F, 0x00, 0xFD, 0x20, 0x8001⟩, 2) := by
  decide

/-- V-LS-9. -/
theorem test_tya_zero :
    ends (start [(0x0000, 0x98)] [] ⟨0x55, 0x00, 0x00, 0xFD, 0x20, 0x8000⟩) =
      some (⟨0x00, 0x00, 0x00, 0xFD, 0x22, 0x8001⟩, 2) := by
  decide

/-- V-LS-10. -/
theorem test_tsx_sets_flags :
    ends (start [(0x0000, 0xBA)] [] ⟨0x00, 0x00, 0x00, 0xFD, 0x20, 0x8000⟩) =
      some (⟨0x00, 0xFD, 0x00, 0xFD, 0xA0, 0x8001⟩, 2) := by
  decide

/-- V-LS-11. -/
theorem test_txs_sets_no_flag :
    ends (start [(0x0000, 0x9A)] [] ⟨0x00, 0x00, 0x00, 0xFD, 0xA0, 0x8000⟩) =
      some (⟨0x00, 0x00, 0x00, 0x00, 0xA0, 0x8001⟩, 2) := by
  decide

/-- V-BR-4. -/
theorem test_bcc_to_next_page :
    ends (start [(0x00FD, 0x90), (0x00FE, 0x01)] [] ⟨0x00, 0x00, 0x00, 0xFD, 0x20, 0x80FD⟩) =
      some (⟨0x00, 0x00, 0x00, 0xFD, 0x20, 0x8100⟩, 4) := by
  decide

/-- V-BR-5. -/
theorem test_bcs_to_page_before :
    ends (start [(0x00FE, 0xB0), (0x00FF, 0xFD)] [] ⟨0x00, 0x00, 0x00, 0xFD, 0x21, 0x80FE⟩) =
      some (⟨0x00, 0x00, 0x00, 0xFD, 0x21, 0x80FD⟩, 4) := by
  decide

/-- V-BR-3. -/
theorem test_beq_backwards :
    ends (start [(0x0000, 0xF0), (0x0001, 0xFC)] [] ⟨0x00, 0x00, 0x00, 0xFD, 0x22, 0x8000⟩) =
      some (⟨0x00, 0x00, 0x00, 0xFD, 0x22, 0x7FFE⟩, 4) := by
  decide

/-- V-BR-6. -/
theorem test_bmi_farthest_forwards :
    ends (start [(0x0000, 0x30), (0x0001, 0x7F)] [] ⟨0x00, 0x00, 0x00, 0xFD, 0xA0, 0x8000⟩) =
      some (⟨0x00, 0x00, 0x00, 0xFD, 0xA0, 0x8081⟩, 3) := by
  decide

/-- V-BR-2. -/
theorem test_bne_not_taken :
    ends (start [(0x0000, 0xD0), (0x0001, 0x05)] [] ⟨0x00, 0x00, 0x00, 0xFD, 0x22, 0x8000⟩) =
      some (⟨0x00, 0x00, 0x00, 0xFD, 0x22, 0x8002⟩, 2) := by
  decide

/-- V-BR-7. -/
theorem test_bpl_farthest_backwards :
    ends (start [(0x0000, 0x10), (0x0001, 0x80)] [] ⟨0x00, 0x00, 0x00, 0xFD, 0x20, 0x8000⟩) =
      some (⟨0x00, 0x00, 0x00, 0xFD, 0x20, 0x7F82⟩, 4) := by
  decide

/-- V-BR-8. -/
theorem test_bvc_taken :
    ends (start [(0x0000, 0x50), (0x0001, 0x02)] [] ⟨0x00, 0x00, 0x00, 0xFD, 0x20, 0x8000⟩) =
      some (⟨0x00, 0x00, 0x00, 0xFD, 0x20, 0x8004⟩, 3) := by
  decide

/-- V-BR-9. -/
theorem test_bvs_not_taken :
    ends (start [(0x0000, 0x70), (0x0001, 0x02)] [] ⟨0x00, 0x00, 0x00, 0xFD, 0x20, 0x8000⟩) =
      some (⟨0x00, 0x00, 0x00, 0xFD, 0x20, 0x8002⟩, 2) := by
  decide

/-- V-JP-1. -/
theorem test_jmp_absolute :
    ends (start [(0x0000, 0x4C), (0x0001, 0x34), (0x0002, 0x12)] [] ⟨0x00, 0x00, 0x00, 0xFD, 0x20, 0x8000⟩) =
      some (⟨0x00, 0x00, 0x00, 0xFD, 0x20, 0x1234⟩, 3) := by
  decide

/-- V-JP-2. -/
theorem test_jmp_indirect_page_wrap :
    ends (start [(0x0000, 0x6C), (0x0001, 0xFF), (0x0002, 0x02)] [(0x0200, 0x12), (0x02FF, 0x34), (0x0300, 0x56)] ⟨0x00, 0x00, 0x00, 0xFD, 0x20, 0x8000⟩) =
      some (⟨0x00, 0x00, 0x00, 0xFD, 0x20, 0x1234⟩, 5) := by
  decide

/-- V-JS-1. -/
theorem test_jsr_pushes_last_byte :
    ends (start [(0x0000, 0x20), (0x0002, 0x90)] [] ⟨0x00, 0x00, 0x00, 0xFD, 0x20, 0x8000⟩) =
      some (⟨0x00, 0x00, 0x00, 0xFB, 0x20, 0x9000⟩, 6) ∧
    cells (start [(0x0000, 0x20), (0x0002, 0x90)] [] ⟨0x00, 0x00, 0x00, 0xFD, 0x20, 0x8000⟩) [0x01FC, 0x01FD] =
      [0x02, 0x80] := by
  decide

/-- V-JS-3. -/
theorem test_rts_increment_wraps :
    ends (start [(0x0000, 0x60)] [(0x01FC, 0xFF), (0x01FD, 0xFF)] ⟨0x00, 0x00, 0x00, 0xFB, 0x20, 0x8000⟩) =
      some (⟨0x00, 0x00, 0x00, 0xFD, 0x20, 0x0000⟩, 6) := by
  decide

/-- V-FS-1. -/
theorem test_clc :
    ends (start [(0x0000, 0x18)] [] ⟨0x00, 0x00, 0x00, 0xFD, 0x21, 0x8000⟩) =
      some (⟨0x00, 0x00, 0x00, 0xFD, 0x20, 0x8001⟩, 2) := by
  decide

/-- V-FS-2. -/
theorem test_sec :
    ends (start [(0x0000, 0x38)] [] ⟨0x00, 0x00, 0x00, 0xFD, 0x20, 0x8000⟩) =
      some (⟨0x00, 0x00, 0x00, 0xFD, 0x21, 0x8001⟩, 2) := by
  decide

/-- V-FS-3. -/
theorem test_cli :
    ends (start [(0x0000, 0x58)] [] ⟨0x00, 0x00, 0x00, 0xFD, 0x24, 0x8000⟩) =
      some (⟨0x00, 0x00, 0x00, 0xFD, 0x20, 0x8001⟩, 2) := by
  decide

/-- V-FS-4. -/
theorem test_sei :
    ends (start [(0x0000, 0x78)] [] ⟨0x00, 0x00, 0x00, 0xFD, 0x20, 0x8000⟩) =
      some (⟨0x00, 0x00, 0x00, 0xFD, 0x24, 0x8001⟩, 2) := by
  decide

/-- V-FS-5. -/
theorem test_clv :
    ends (start [(0x0000, 0xB8)] [] ⟨0x00, 0x00, 0x00, 0xFD, 0x60, 0x8000⟩) =
      some (⟨0x00, 0x00, 0x00, 0xFD, 0x20, 0x8001⟩, 2) := by
  decide

/-- V-FS-6. -/
theorem test_cld :
    ends (start [(0x0000, 0xD8)] [] ⟨0x00, 0x00, 0x00, 0xFD, 0x28, 0x8000⟩) =
      some (⟨0x00, 0x00, 0x00, 0xFD, 0x20, 0x8001⟩, 2) := by
  decide

/-- V-FS-7. -/
theorem test_sed :
    ends (start [(0x0000, 0xF8)] [] ⟨0x00, 0x00, 0x00, 0xFD, 0x20, 0x8000⟩) =
      some (⟨0x00, 0x00, 0x00, 0xFD, 0x28, 0x8001⟩, 2) := by
  decide

/-- V-FS-8. -/
theorem test_nop :
    ends (start [(0x0000, 0xEA)] [] ⟨0x01, 0x02, 0x03, 0xFD, 0xE3, 0x8000⟩) =
      some (⟨0x01, 0x02, 0x03, 0xFD, 0xE3, 0x8001⟩, 2) := by
  decide

/-- V-FS-9. -/
theorem test_brk_pushes_break :
    ends (start [(0x0001, 0xFF), (0x3FFE, 0x20), (0x3FFF, 0x80)] [] ⟨0x00, 0x00, 0x00, 0xFD, 0x22, 0x8000⟩) =
      some (⟨0x00, 0x00, 0x00, 0xFA, 0x26, 0x8020⟩, 7) ∧
    cells (start [(0x0001, 0xFF), (0x3FFE, 0x20), (0x3FFF, 0x80)] [] ⟨0x00, 0x00, 0x00, 0xFD, 0x22, 0x8000⟩) [0x01FB, 0x01FC, 0x01FD] =
      [0x32, 0x02, 0x80] := by
  decide

/-- V-FS-11. -/
theorem test_rti_clears_break :
    ends (start [(0x0000, 0x40)] [(0x01FB, 0xFF), (0x01FD, 0x80)] ⟨0x00, 0x00, 0x00, 0xFA, 0x20, 0x8000⟩) =
      some (⟨0x00, 0x00, 0x00, 0xFD, 0xEF, 0x8000⟩, 6) := by
  decide


/-! ### Reset, faults, interrupts, buses, PPU: vectors of 95_test_vectors.md -/

/-- W1: the PC from the reset vector. -/
theorem test_reset_reads_vector :
    (nextOf (systemReset { State.reset with cart := { Cart.blank with prg := [(0x3FFC, 0x34), (0x3FFD, 0xC2)] } })).map
      (fun t => (t.cpu.pc, t.cpu.sp, t.cpu.p, t.cpu.cycles)) = some (0xC234, 0xFD, 0x20, 7) := by
  decide

/-- V-RS-2, V-RS-5: RAM and a recorded fault survive Reset(). -/
theorem test_reset_keeps_ram_and_fault :
    (nextOf (systemReset { State.reset with
        ram := [(0x10, 0x5A)]
        tick := 100
        fault := some (.illegalOpcode 0x02 0x8005)
        ppu := { Ppu.reset with ctrl := 0x80, scanline := 5, cycle := 7 } })).map
      (fun t => ((t.ram, t.tick, t.fault == some (.illegalOpcode 0x02 0x8005)), (t.ppu.ctrl, t.ppu.scanline, t.ppu.cycle))) =
      some (([(0x10, 0x5A)], 0, true), (0, -1, 0)) := by
  decide

/-- V-RS-3, V-RS-4: refused without a cartridge, and before Reset(). -/
theorem test_refusals :
    nextOf (systemReset { State.reset with cart := { Cart.blank with valid := false } }) = none ∧
      nextOf (step { State.reset with ready := false }) = none ∧ nextOf (setController 3 0 State.reset) = none := by
  decide

/-- V-FT-1: the fault, the PC past the opcode, and the next clocks change nothing. -/
theorem test_illegal_opcode_faults :
    (nextOf (step (start [(0x0005, 0x02)] [] ⟨1, 2, 3, 0xFD, 0x20, 0x8005⟩))).map
      (fun t => (t.fault == some (.illegalOpcode 0x02 0x8005), t.cpu.pc, t.cpu.a, t.cpu.cycles, nextOf (step t) == some t)) =
      some (true, 0x8006, 1, 0, true) := by
  decide

/-- V-IN-1: NMI entry, under both modes. -/
theorem test_nmi_entry :
    let s := start [(0x3FFA, 0x20), (0x3FFB, 0x80)] [] ⟨0, 0, 0, 0xFD, 0xA0, 0x8009⟩
    let t := nmiEntry s
    (t.ram, t.cpu.p, t.cpu.sp, t.cpu.pc, t.cpu.cycles) =
      ([(0x1FB, 0xA4), (0x1FC, 0x09), (0x1FD, 0x80)], 0xA4, 0xFA, 0x8020, 7) ∧
    (nmiEntry { s with params := { s.params with pushedIMode := .before } }).ram.read 0x1FB = 0xA0 := by
  decide

/-- V-IN-2, V-IN-3: the IRQ is entered when I is clear, not when it is set. -/
theorem test_irq_entry :
    let s (p : Byte) := { start [(0x0000, 0xEA), (0x3FFE, 0x30), (0x3FFF, 0x80)] [] ⟨0, 0, 0, 0xFD, p, 0x8000⟩ with
      params := { Params.default with irqLine := .listed true [] } }
    (ends (s 0x21) = some (⟨0, 0, 0, 0xFA, 0x25, 0x8030⟩, 7) ∧ cells (s 0x21) [0x1FB] = [0x25]) ∧
      ends (s 0x24) = some (⟨0, 0, 0, 0xFD, 0x24, 0x8001⟩, 2) := by
  decide

/-- V-IN-7: both pending: the IRQ entry, then the NMI entry, which pushes the IRQ's target; the NMI's count of 7 is not yet counted down. -/
theorem test_irq_then_nmi :
    let s₀ := start [(0x3FFA, 0x20), (0x3FFB, 0x80), (0x3FFE, 0x30), (0x3FFF, 0x80)] [] ⟨0, 0, 0, 0xFD, 0x21, 0x8000⟩
    let s := { s₀ with
      params := { Params.default with irqLine := .listed true [] }
      ppu := { s₀.ppu with nmiRequest := true } }
    ends s = some (⟨0, 0, 0, 0xF7, 0x25, 0x8020⟩, 8) ∧
      cells s [0x1FD, 0x1FC, 0x1FA, 0x1F9] = [0x80, 0x00, 0x80, 0x30] := by
  decide

/-- V-MM-1, V-MM-3, V-MM-5, V-MM-6, V-MM-9. -/
theorem test_cpu_memory_map :
    let s := { State.reset with cart := { Cart.blank with prg := [(0x0000, 0x77), (0x0123, 0x42)] } }
    (memRead 0x1801 (memWrite 0x0801 0xAA s)).1 = 0xAA ∧ (memWrite 0x2008 0x80 s).ppu.ctrl = 0x80 ∧
      (memRead 0x6000 (memWrite 0x6000 0x12 s)).1 = 0x00 ∧ (memRead 0x4014 s).1 = 0x00 ∧ (memRead 0xC123 s).1 = 0x42 ∧
      (memRead 0x8000 (memWrite 0x8000 0x55 s)).1 = 0x77 := by
  decide

/-- V-MM-8: two banks. -/
theorem test_two_prg_banks :
    let s := { State.reset with cart := { Cart.blank with prgBanks := 2, prg := [(0x0123, 0x11), (0x4123, 0x22)] } }
    (memRead 0xC123 s).1 = 0x22 ∧ (memRead 0x8123 s).1 = 0x11 := by
  decide

/-- The bytes of `n` reads of an address. -/
def reads : Nat → Word → State → List Byte
  | 0, _, _ => []
  | n + 1, a, s => (memRead a s).1 :: reads n a (memRead a s).2

/-- V-CT-1, V-CT-2. -/
theorem test_controller_reads :
    let s := { State.reset with port1 := { Port.reset with live := 0x09 } }
    reads 9 0x4016 (memWrite 0x4016 0 (memWrite 0x4016 1 s)) = [0x41, 0x40, 0x40, 0x41, 0x40, 0x40, 0x40, 0x40, 0x40] ∧
      reads 3 0x4016 (memWrite 0x4016 1 s) = [0x41, 0x41, 0x41] := by
  decide

/-- V-PP-1, V-PP-2, V-PP-11. -/
theorem test_ppu_address_ports :
    (memWrite 0x2005 0x5E (memWrite 0x2005 0x7D State.reset)).ppu.t = 0x616F ∧
      (memWrite 0x2005 0x5E (memWrite 0x2005 0x7D State.reset)).ppu.fineX = 5 ∧
      (memWrite 0x2000 0x03 State.reset).ppu.t = 0x0C00 ∧
      (memWrite 0x2006 0xFF (memWrite 0x2006 0xFF State.reset)).ppu.v = 0x3FFF := by
  decide

/-- V-PP-3, V-PP-7, V-PP-8. -/
theorem test_ppu_reads :
    let s (p : Ppu) := { State.reset with ppu := p }
    let r := memRead 0x2002 (s { Ppu.reset with status := 0xE0, w := true })
    (r.1, r.2.ppu.status, r.2.ppu.w) = (0xE0, 0x60, false) ∧
      (memRead 0x2007 (s { Ppu.reset with v := 0x3F05, palette := [(5, 0x16)] })).1 = 0x16 ∧
      reads 2 0x2007 (s { Ppu.reset with v := 0x2108, nametable := [(0x108, 0x5A)] }) = [0x00, 0x5A] := by
  decide

/-- V-PP-5, V-PP-9. -/
theorem test_ppu_data_writes :
    let s := memWrite 0x2007 0x2C (memWrite 0x2006 0x10 (memWrite 0x2006 0x3F State.reset))
    (s.ppu.palette, s.ppu.v) = ([(0, 0x2C)], 0x3F11) ∧
      (let t := memWrite 0x2004 0x33 (memWrite 0x2004 0x22 (memWrite 0x2004 0x11 (memWrite 0x2003 0xFE State.reset)))
      (t.ppu.oam, t.ppu.oamAddr) = ([(0x00, 0x33), (0xFE, 0x11), (0xFF, 0x22)], 0x01)) := by
  decide

/-- V-PP-12, V-PP-13: CHR-ROM discards, CHR-RAM keeps. -/
theorem test_chr_writes :
    (memWrite 0x2007 0x99 State.reset).cart.chr = [] ∧
      (memWrite 0x2007 0x99 { State.reset with cart := { Cart.blank with chrBanks := 0 } }).cart.chr = [(0, 0x99)] := by
  decide

/-- V-SC-1, V-SC-5, V-SC-7, V-SC-8, V-SC-10, V-SC-11. -/
theorem test_scroll_counters :
    incX 0x001F = 0x0400 ∧ incY 0x73A0 = 0x0800 ∧ incY 0x73C0 = 0x03E0 ∧ incY 0x73E0 = 0x0000 ∧
      transferX 0x0C3F 0x0415 = 0x0C35 ∧ transferY 0x0C35 0x6D60 = 0x6D75 := by
  decide

/-- V-FA-2, V-FA-3, V-FA-6, V-FA-7. -/
theorem test_fetch_addresses :
    nametableAddr 0x2108 = 0x2108 ∧ attributeBits 0x0042 0xE4 = 3 ∧ attributeAddr 0x0C7F = 0x2FC7 ∧
      patternAddr { Ppu.reset with ctrl := 0x10, bgNextId := 0x41, v := 0x3000 } = 0x1413 := by
  decide

/-- V-SP-2, V-SP-3, V-SP-4. -/
theorem test_sprite_range :
    let p (y ctrl : Byte) := { Ppu.reset with scanline := 20, ctrl := ctrl, oam := [(0, y)] }
    inRange (p 13 0) 0 = true ∧ inRange (p 12 0) 0 = false ∧ inRange (p 5 0x20) 0 = true := by
  decide

/-- V-SP-8, V-SP-10, V-SP-12. -/
theorem test_sprite_pattern_addresses :
    spritePatternAddr { Ppu.reset with scanline := 22 } { SpriteSlot.empty with y := 20, tile := 0x10, attr := 0x80 } = 0x0105 ∧
      spritePatternAddr { Ppu.reset with scanline := 29, ctrl := 0x20 }
        { SpriteSlot.empty with y := 20, tile := 0x11, attr := 0x80 } = 0x1106 ∧
      bitReverse 0x30 = 0x0C := by
  decide

/-- V-PX-3, V-PX-5, V-PX-6, V-PX-7, V-PX-11. -/
theorem test_pixels :
    mergePixel (0, 0) (3, 5) true = (3, 5) ∧ mergePixel (2, 1) (1, 4) false = (2, 1) ∧
      (let p (cycle : Nat) := { Ppu.reset with
          mask := 0x18
          cycle := cycle
          spriteZeroPossible := true
          spriteZeroRendering := true }
      (spriteZeroCheck (p 5)).status = 0 ∧ (spriteZeroCheck (p 9)).status = 0x40) ∧
      bgPixel { Ppu.reset with mask := 0x08, fineX := 3, bgShiftPatLo := 0x1000 } = (1, 0) := by
  decide

/-- V-NT-1, V-NT-2, V-NT-4, V-NT-6, V-NT-7. -/
theorem test_nametables_and_palette :
    ntIndex .vertical 0x2800 = 0 ∧ ntIndex .vertical 0x2C00 = 1024 ∧ ntIndex .horizontal 0x2BFF = 1024 + 0x3FF ∧
      ntIndex .vertical 0x3EFF = ntIndex .vertical 0x2EFF ∧ palIndex 0x3F1C = 0x0C ∧ palIndex 0x3F31 = 0x11 := by
  decide

/-- W5, V-CK-5: the clock at (241, 1), and the frame's last clock. -/
theorem test_frame_ends :
    (ppuClock Cart.blank { Ppu.reset with scanline := 241, cycle := 1 }).status = 0x80 ∧
      (let p := ppuClock Cart.blank { Ppu.reset with scanline := 260, cycle := 340 }
      (p.scanline, p.cycle, p.frameComplete) = (-1, 0, true)) := by
  decide

/-- V-CA-7: a truncated header. -/
theorem test_truncated_header : (loadCartridge (List.replicate 15 0) State.reset).1 = .invalidImage ∧
    (loadCartridge (List.replicate 15 0) State.reset).2.cart.valid = false := by
  decide

/-- A mapper-000 image with one PRG bank, no CHR bank and vertical mirroring (V-CA-9 with byte 6 = 01): `n` bytes of PRG. -/
def smallImage (n : Nat) : List Byte := [0x4E, 0x45, 0x53, 0x1A, 1, 0, 1, 0, 0, 0, 0, 0, 0, 0, 0, 0] ++ List.replicate n 0x11

/-- The load of such an image, its length kept a variable so that no list of that length is written out. -/
theorem test_load_image (n : Nat) (h : n = 16384) :
    (loadCartridge (smallImage n) State.reset).1 = .loaded ∧
      (loadCartridge (smallImage n) State.reset).2.cart.valid = true ∧
      (loadCartridge (smallImage n) State.reset).2.cart.mirroring = .vertical ∧
      (loadCartridge (smallImage n) State.reset).2.cart.mapper = some .mapper000 := by
  have hl : ¬ n + 1 + 1 + 1 + 1 + 1 + 1 + 1 + 1 + 1 + 1 + 1 + 1 + 1 + 1 + 1 + 1 < 16 := by omega
  have hs : ¬ n + 16 < 16400 := by omega
  simp [loadCartridge, Cart.load, Cart.report, imageByte, smallImage, prgStart, headerMirroring, headerMapperId, Cart.mapper,
    hl, hs]

/-- R435: a complete image of mapper 1 without banks is valid and reported as unsupported, and Reset() is refused. -/
theorem test_unsupported_mapper :
    let r := loadCartridge (List.replicate 6 0 ++ [0x10] ++ List.replicate 9 0) State.reset
    r.1 = .unsupportedMapper 1 0 0 ∧ r.2.cart.valid = true ∧ r.2.cart.mapper = none ∧ nextOf (systemReset r.2) = none := by
  decide

/-- R432, V-CA-9: CHR-RAM holds `MEM_INIT` after a load. -/
theorem test_chr_ram_is_a_draw :
    let s := State.powerOn { Params.default with memInit := { MemInit.unlisted with ram := [(9, 7)], chrRam := [(3, 5)] } }
    (loadCartridge (List.replicate 16 0) s).2.cart.chr = [(3, 5)] ∧ (memRead 0x0809 s).1 = 7 := by
  decide

/-- R61: Reset() of a running machine sets a sprite's delay counter to 0. -/
theorem test_reset_clears_sprite_counter :
    (nextOf (systemReset { State.reset with
        ppu := { Ppu.reset with slots := [{ y := 1, tile := 2, attr := 3, x := 4, shiftLo := 5, shiftHi := 6 }] } })).map
      (fun t => t.ppu.slots) = some [{ y := 1, tile := 2, attr := 3, x := 0, shiftLo := 0, shiftHi := 0 }] := by
  decide

/-- R344: the default line is never asserted; a free line is its free value. -/
theorem test_irq_line (tick : Nat) :
    irqAsserted Params.default.irqLine tick = false ∧ irqAsserted .free tick = Config.irqLine tick := ⟨rfl, rfl⟩

/-- V-CA-8 in small: a body one byte short is invalid. -/
theorem test_short_body (n : Nat) (h : n = 16383) : (loadCartridge (smallImage n) State.reset).2.cart.valid = false := by
  have hs : n + 16 < 16400 := by omega
  simp [loadCartridge, Cart.load, imageByte, smallImage, prgStart, hs]
  split <;> rfl

/-! ### The memory's canonical form -/

theorem test_memory_form :
    State.reset.memoryOk = true ∧ (Memory.write [(1, 5), (9, 7)] 4 6) = [(1, 5), (4, 6), (9, 7)] ∧
      (Memory.write [(1, 5), (9, 7)] 9 0) = [(1, 5)] ∧ Memory.wf [(9, 7), (1, 5)] = false ∧ Memory.wf [(1, 0)] = false := by
  decide

/-! ### A witness for the hypotheses of each statement -/

/-- The machine of `start` with NOPs, for the witnesses. -/
def plain : State := start [(0x0000, 0xEA)] [] ⟨1, 2, 3, 0xFD, 0x20, 0x8000⟩

theorem witness_DecodeOfEncode : (Instr.adcAbx 0xFFFF).wellFormed = true := by decide

theorem witness_EncodeOfDecode :
    decode [0x7D, 0xFF, 0xFF, 0x11] = some (.adcAbx 0xFFFF, [0x11]) ∧ decode [0x00, 0xFF] = some (.brk, []) ∧
      decode [0x00] = some (.brk, []) := by
  decide

theorem witness_AdcAddsOperandAndCarry :
    ReadOp.form .adc (.imm 0xFF) = some (.adcImm 0xFF, 0x69, 2) ∧
      ReadOp.form .adc (.mem (.izy 0xFF)) = some (.adcIzy 0xFF, 0x71, 5) := by
  decide

theorem witness_SbcSubtractsOperandAndBorrow :
    ReadOp.form .sbc (.imm 0x00) = some (.sbcImm 0x00, 0xE9, 2) ∧
      ReadOp.form .sbc (.mem (.abx 0xFFFF)) = some (.sbcAbx 0xFFFF, 0xFD, 4) := by
  decide

theorem witness_OverflowIsSignedOverflow :
    ReadOp.form .adc (.imm 0x80) = some (.adcImm 0x80, 0x69, 2) ∧
      ReadOp.form .sbc (.imm 0x80) = some (.sbcImm 0x80, 0xE9, 2) := by
  decide

theorem witness_LogicWritesAccumulator :
    ReadOp.form .and_ (.mem (.zpx 0xFF)) = some (.andZpx 0xFF, 0x35, 4) ∧
      ReadOp.form .ora (.mem (.aby 0xFFFF)) = some (.oraAby 0xFFFF, 0x19, 4) ∧
      ReadOp.form .eor (.mem (.izx 0xFF)) = some (.eorIzx 0xFF, 0x41, 6) := by
  decide

theorem witness_BitTestsWithoutWriting :
    ReadOp.form .bit (.mem (.zp0 0xFF)) = some (.bitZp0 0xFF, 0x24, 3) ∧
      ReadOp.form .bit (.mem (.abs 0x2002)) = some (.bitAbs 0x2002, 0x2C, 4) := by
  decide

theorem witness_ComparesWriteFlagsOnly :
    ReadOp.form .cmp (.mem (.izy 0xFF)) = some (.cmpIzy 0xFF, 0xD1, 5) ∧
      ReadOp.form .cpx (.imm 0xFF) = some (.cpxImm 0xFF, 0xE0, 2) ∧
      ReadOp.form .cpy (.mem (.abs 0xFFFF)) = some (.cpyAbs 0xFFFF, 0xCC, 4) := by
  decide

theorem witness_IncrementsAndDecrements :
    ModifyOp.form .inc (.abx 0x2007) = some (.incAbx 0x2007, 0xFE, 7) ∧
      ModifyOp.form .dec (.zpx 0xFF) = some (.decZpx 0xFF, 0xD6, 6) := by
  decide

theorem witness_ShiftsAndRotates :
    (ModifyOp.form .asl (.zp0 0xFF) = some (.aslZp0 0xFF, 0x06, 5) ∧ ModifyOp.accForm .asl = some (.aslAcc, 0x0A)) ∧
      (ModifyOp.form .lsr (.abs 0x4014) = some (.lsrAbs 0x4014, 0x4E, 6) ∧ ModifyOp.accForm .lsr = some (.lsrAcc, 0x4A)) ∧
      (ModifyOp.form .rol (.zpx 0xFF) = some (.rolZpx 0xFF, 0x36, 6) ∧ ModifyOp.accForm .rol = some (.rolAcc, 0x2A)) ∧
      ModifyOp.form .ror (.abx 0xFFFF) = some (.rorAbx 0xFFFF, 0x7E, 7) ∧ ModifyOp.accForm .ror = some (.rorAcc, 0x6A) := by
  decide

theorem witness_LoadsWriteTheirRegister :
    ReadOp.form .lda (.mem (.izy 0xFF)) = some (.ldaIzy 0xFF, 0xB1, 5) ∧
      ReadOp.form .ldx (.mem (.zpy 0xFF)) = some (.ldxZpy 0xFF, 0xB6, 4) ∧
      ReadOp.form .ldy (.mem (.abx 0xFFFF)) = some (.ldyAbx 0xFFFF, 0xBC, 4) := by
  decide

theorem witness_StoresWriteTheirRegister :
    StoreOp.form .sta (.abs 0x4014) = some (.staAbs 0x4014, 0x8D, 4) ∧
      StoreOp.form .stx (.zpy 0xFF) = some (.stxZpy 0xFF, 0x96, 4) ∧
      StoreOp.form .sty (.zpx 0xFF) = some (.styZpx 0xFF, 0x94, 4) := by
  decide

/-- Both outcomes of a branch. -/
theorem witness_BranchesFollowTheirFlag : BranchOp.taken 0x20 .bne = true ∧ BranchOp.taken 0x22 .bne = false := by decide

/-- A store in RAM, an address beside it and one at each edge of the ranges. -/
theorem witness_InstructionsStoreOnlyWhereTheySay :
    (∃ t, exec (.staZp0 0xFF) plain = .next t) ∧
      (∀ a : Word, a = 0x0000 ∨ a = 0x1FFE ∨ a = 0x4018 ∨ a = 0xFFFF → (a.toNat ≤ 0x1FFF ∨ 0x4018 ≤ a.toNat) ∧
        ∀ b, b ∈ storedTo (.staZp0 0xFF) plain → ¬ SameRamCell a b) ∧
      (∀ b, b ∈ storedTo (.staZp0 0xFF) plain → ¬ (0x2000 ≤ b.toNat ∧ b.toNat ≤ 0x3FFF ∧ b.toNat % 8 = 7)) ∧
      (∀ b, b ∈ storedTo (.staZp0 0xFF) plain → ¬ (0x2000 ≤ b.toNat ∧ b.toNat ≤ 0x3FFF ∧ b.toNat % 8 = 4) ∧ b ≠ 0x4014#16) := by
  have stored {b : Word} (hb : b ∈ storedTo (.staZp0 0xFF) plain) : b = 0x00FF := List.mem_singleton.mp hb
  refine ⟨next_of_nextOf (by decide), ?_, ?_, ?_⟩
  · rintro a (rfl | rfl | rfl | rfl) <;> refine ⟨by decide, fun b hb => ?_⟩ <;> rw [stored hb] <;> unfold SameRamCell <;> decide
  · exact fun b hb => by rw [stored hb]; decide
  · exact fun b hb => by rw [stored hb]; decide

theorem witness_NoInstructionFaults : State.reset.cart.chrBanks ≠ 0#8 ∧ State.reset.flag .brk = false := by decide

theorem witness_InstructionsLeaveThePipeline : ∃ t, exec (.staAbs 0x2007) plain = .next t := next_of_nextOf (by decide)

theorem witness_StepRunsDecodedInstruction :
    let s := start [(0x0000, 0xBD), (0x0001, 0x34), (0x0002, 0x12)] [] ⟨1, 2, 3, 0xFD, 0x20, 0x8000⟩
    let u := { s with ppu := ppuClock s.cart s.ppu }
    (s.canClock = true ∧ s.fault = none ∧ s.tick % 3 = 0 ∧ u.cpu.cycles = 0 ∧
      ¬ (irqAsserted u.params.irqLine u.tick = true ∧ u.flag .interruptDisable = false) ∧
      decode [(memRead 0x8000 u).1, (memRead 0x8001 u).1, (memRead 0x8002 u).1] = some (.ldaAbx 0x1234, [])) ∧
    ∃ t, exec (.ldaAbx 0x1234) { u with
      cpu := { u.cpu with pc := u.cpu.pc + BitVec.ofNat 16 (fetchedBytes (.ldaAbx 0x1234)), p := u.cpu.p ||| 0x20 } } = .next t := by
  exact ⟨by decide, next_of_nextOf (by decide)⟩

theorem witness_IllegalOpcodeStopsTheMachine :
    let s := start [(0x0000, 0xFF)] [] ⟨1, 2, 3, 0xFD, 0x20, 0x8000⟩
    let u := { s with ppu := ppuClock s.cart s.ppu }
    s.canClock = true ∧ s.fault = none ∧ s.tick % 3 = 0 ∧ u.cpu.cycles = 0 ∧
      ¬ (irqAsserted u.params.irqLine u.tick = true ∧ u.flag .interruptDisable = false) ∧
      (memRead u.cpu.pc u).1 ∈ illegalOpcodes := by
  decide

theorem witness_OtherTicksOnlyCountDown :
    (let s := { plain with tick := 2 }
    s.canClock = true ∧ s.fault = none ∧ s.tick % 3 ≠ 0) ∧
      State.reset.canClock = true ∧ State.reset.fault = none ∧ State.reset.tick % 3 = 0 ∧ 0 < State.reset.cpu.cycles := by
  decide

theorem witness_EndOfTickDeliversNmi :
    { State.reset with ppu := { Ppu.reset with nmiRequest := true } }.ppu.nmiRequest = true ∧
      State.reset.ppu.nmiRequest = false := by
  decide

theorem witness_NmiAtVblankStart :
    let s := { plain with tick := 82523, ppu := { Ppu.reset with scanline := 241, cycle := 1, ctrl := 0x80 } }
    s.canClock = true ∧ s.fault = none ∧ s.tick % 3 ≠ 0 ∧ s.ppu.scanline = 241 ∧ s.ppu.cycle = 1 ∧
      s.ppu.ctrl.getLsbD 7 = true := by
  decide

theorem witness_IrqEnteredWhenIdle :
    let s := { plain with params := { Params.default with irqLine := .listed false [0] } }
    s.canClock = true ∧ s.fault = none ∧ s.tick % 3 = 0 ∧ s.cpu.cycles = 0 ∧
      irqAsserted s.params.irqLine s.tick = true ∧ s.flag .interruptDisable = false := by
  decide

theorem witness_ClockRefusedExactlyWhenNotReady : step State.reset ≠ .refused .notReady := by
  obtain ⟨t, h⟩ : ∃ t, step State.reset = .next t := next_of_nextOf (by decide)
  simp [h]

theorem witness_FaultedMachineStays :
    let s := { plain with fault := some (.illegalOpcode 0x02 0x8000) }
    s.fault = some (.illegalOpcode 0x02 0x8000) ∧ (∃ t, step s = .next t) ∧ ∃ t, systemReset s = .next t := by
  exact ⟨rfl, next_of_nextOf (by decide), next_of_nextOf (by decide)⟩

/-- Both bank counts, and the value at the edges of each range. -/
theorem witness_CpuReadMap :
    let s := { plain with ram := [(0x000, 0x11), (0x7FF, 0x22)] }
    let s₂ := { s with cart := { s.cart with prgBanks := 2, prg := [(0x0000, 0xEA), (0x7FFF, 0x33)] } }
    (s.cart.mapper.isSome = true ∧ s.cart.prgBanks = 1#8) ∧ (s₂.cart.mapper.isSome = true ∧ s₂.cart.prgBanks = 2#8) ∧
      (memRead 0x1FFF s).1 = 0x22 ∧ (memRead 0x2000 s).1 = 0x00 ∧ (memRead 0x3FFF s).1 = 0x00 ∧ (memRead 0x4000 s).1 = 0x00 ∧
      (memRead 0x7FFF s).1 = 0x00 ∧ (memRead 0xC000 s).1 = 0xEA ∧ (memRead 0xFFFF s₂).1 = 0x33 ∧ (memRead 0xC000 s₂).1 = 0x00 := by
  decide

theorem witness_CpuWriteMap :
    plain.cart.mapper.isSome = true ∧ (memWrite 0x1FFF 5 plain).ram = [(0x7FF, 5)] ∧ (memWrite 0x2000 5 plain).ppu.ctrl = 5 ∧
      memWrite 0x3FFA 5 plain = plain ∧ memWrite 0x4000 5 plain = plain ∧ memWrite 0xFFFF 5 plain = plain := by
  decide

theorem witness_RamReadsWhatWasWritten :
    State.reset.memoryOk = true ∧ (0x1FFF#16).toNat ≤ 0x1FFF ∧ (0x07FF#16).toNat ≤ 0x1FFF ∧ (0x0000#16).toNat ≤ 0x1FFF := by
  decide

theorem witness_OamDmaCopiesAPageOfRam : State.reset.memoryOk = true := by decide

theorem witness_ControllerPorts :
    { Port.reset with strobe := true }.strobe = true ∧ State.reset.port1.strobe = false ∧ State.reset.port2.strobe = false := by
  decide

/-- Every port number, at the first and the last mirror, in both states of the write toggle. -/
theorem witness_PpuPortWrites :
    (∀ r : Nat, r < 8 → 0x2000 ≤ (BitVec.ofNat 16 (0x2000 + r) : Word).toNat ∧
      (BitVec.ofNat 16 (0x2000 + r) : Word).toNat % 8 = r) ∧
    (∀ r : Nat, r < 8 → (BitVec.ofNat 16 (0x3FF8 + r) : Word).toNat ≤ 0x3FFF ∧
      (BitVec.ofNat 16 (0x3FF8 + r) : Word).toNat % 8 = r) ∧
    State.reset.ppu.w = false ∧ { Ppu.reset with w := true }.w = true := by
  decide

theorem witness_PpuPortReads :
    (∀ r : Nat, r < 8 → 0x2000 ≤ (BitVec.ofNat 16 (0x2000 + r) : Word).toNat ∧
      (BitVec.ofNat 16 (0x3FF8 + r) : Word).toNat ≤ 0x3FFF ∧ (BitVec.ofNat 16 (0x3FF8 + r) : Word).toNat % 8 = r) ∧
      (memRead 0x3FFF { plain with ppu := { Ppu.reset with v := 0x3EFF, dataBuffer := 0x44 } }).1 = 0x44 ∧
      (memRead 0x3FFF { plain with ppu := { Ppu.reset with v := 0x3F00, dataBuffer := 0x44 } }).1 = 0x00 := by
  decide

theorem witness_PpuAddressSpace :
    Cart.blank.mapper.isSome = true ∧ { Cart.blank with chrBanks := 0 }.mapper.isSome = true ∧
      ∀ a : Word, a = 0x0000 ∨ a = 0x1FFF ∨ a = 0x2000 ∨ a = 0x3EFF ∨ a = 0x3F00 ∨ a = 0xFFFF →
        a.toNat % 16384 ≤ 0x1FFF ∨ (0x2000 ≤ a.toNat % 16384 ∧ a.toNat % 16384 ≤ 0x3EFF) ∨ 0x3F00 ≤ a.toNat % 16384 := by
  refine ⟨by decide, by decide, ?_⟩
  rintro a (rfl | rfl | rfl | rfl | rfl | rfl) <;> decide

/-- A rendering PPU at the position a clause speaks of. -/
def drawing (scanline : Int) (cycle : Nat) : Ppu :=
  { Ppu.reset with mask := 0x18, scanline := scanline, cycle := cycle }

theorem witness_ClockMovesTheScroll :
    (∀ k : Nat, k = 2 ∨ k = 8 ∨ k = 256 ∨ k = 257 ∨ k = 321 ∨ k = 336 ∨ k = 337 →
      OnFetchLine (drawing (-1) k) ∧ Renders (drawing (-1) k) ∧ inWindow (drawing 239 k) ∧ OnFetchLine (drawing 239 k)) ∧
    phaseOf (drawing 239 8) = 7 ∧ phaseOf (drawing 239 336) = 7 ∧ (drawing 239 256).cycle = 256 ∧
    (drawing 239 257).cycle = 257 ∧ ((drawing (-1) 280).scanline = -1 ∧ 280 ≤ (drawing (-1) 304).cycle) ∧
    (¬ (inWindow (drawing 0 1) ∧ phaseOf (drawing 0 1) = 7) ∧ (drawing 0 1).cycle ≠ 257) ∧
    ¬ (OnFetchLine (drawing 240 8) ∧ Renders (drawing 240 8)) := by
  refine ⟨?_, by decide, by decide, by decide, by decide, by decide, ?_, ?_⟩
  · rintro k (rfl | rfl | rfl | rfl | rfl | rfl | rfl) <;> simp [OnFetchLine, Renders, inWindow, drawing]
  · simp [inWindow, phaseOf, drawing]
  · simp [OnFetchLine, drawing]

theorem witness_BackgroundPipeline :
    (∀ k : Nat, k = 2 ∨ k = 257 ∨ k = 321 ∨ k = 337 → OnFetchLine (drawing 0 k) ∧ inWindow (drawing 0 k)) ∧
      (∀ k : Nat, k = 0 ∨ k = 1 ∨ k = 258 ∨ k = 320 ∨ k = 338 → ¬ (OnFetchLine (drawing 0 k) ∧ inWindow (drawing 0 k))) := by
  refine ⟨?_, ?_⟩
  · rintro k (rfl | rfl | rfl | rfl) <;> simp [OnFetchLine, inWindow, drawing]
  · rintro k (rfl | rfl | rfl | rfl | rfl) <;> simp [inWindow, drawing]

/-- Nine entries in range: the list full, the eighth entry the last copied. -/
theorem witness_SpriteEvaluationFindsTheFirstEight :
    let p := { Ppu.reset with
      scanline := 20
      oam := [(0, 20), (4, 20), (8, 20), (12, 20), (16, 20), (20, 20), (24, 20), (28, 20), (32, 20)] }
    let none' := { Ppu.reset with scanline := 20 }
    p.slots.length = 8 ∧ entriesInRange p = [0, 1, 2, 3, 4, 5, 6, 7, 8] ∧ (entriesInRange p)[7]? = some 7 ∧
      entriesInRange none' = [] ∧ none'.slots[0]? = some SpriteSlot.empty := by
  decide

theorem witness_SpriteShiftersLoadPatternRows :
    let sp := { SpriteSlot.empty with y := 20, tile := 0x10 }
    let p : Ppu := { Ppu.reset with scanline := 27, spriteCount := 1, slots := sp :: List.replicate 7 SpriteSlot.empty }
    Cart.blank.mapper.isSome = true ∧ p.slots[0]? = some sp ∧ 0 < p.spriteCount ∧ p.scanline - (sp.y.toNat : Int) = 7 ∧
      7 < (if p.ctrl.getLsbD 5 = true then 16 else 8) ∧ p.slots[1]? = some SpriteSlot.empty ∧ p.spriteCount ≤ 1 := by
  decide

theorem witness_ClockWorksTheSpriteList :
    (∀ k : Nat, k = 2 ∨ k = 256 → 0 ≤ (drawing 0 k).scanline ∧ (drawing 239 k).scanline ≤ 239 ∧ 2 ≤ (drawing 0 k).cycle ∧
      (drawing 0 k).cycle ≤ 256 ∧ (drawing 0 k).slots[0]? = some SpriteSlot.empty) ∧
      (drawing 239 257).cycle = 257 ∧ ((drawing (-1) 1).scanline = -1 ∧ (drawing (-1) 1).cycle = 1) ∧
      (¬ (2 ≤ (drawing 0 1).cycle) ∧ ¬ ((drawing 0 1).scanline = -1)) := by
  refine ⟨?_, by decide, by decide, by decide⟩
  rintro k (rfl | rfl) <;> decide

theorem witness_VblankStartsAndEnds :
    ((drawing 241 1).scanline = 241 ∧ (drawing 241 1).cycle = 1) ∧ ((drawing (-1) 1).scanline = -1 ∧ (drawing (-1) 1).cycle = 1) ∧
      (240 ≤ (drawing 240 340).scanline ∧ (drawing 260 340).scanline ≤ 260 ∧
        ¬ ((drawing 260 340).scanline = 241 ∧ (drawing 260 340).cycle = 1)) ∧
      (∀ k : Nat, k = 0 ∨ k = 258 ∨ k = 340 → ¬ OnPixel (drawing 239 k) ∧ (drawing 239 k).cycle ≠ 257 ∧
        (drawing 239 k).cycle ≠ 1) ∧
      ¬ OnPixel (drawing 239 257) := by
  refine ⟨by decide, by decide, by decide, ?_, by simp [OnPixel, drawing]⟩
  rintro k (rfl | rfl | rfl) <;> simp [OnPixel, drawing]

theorem witness_PixelIsWritten :
    Cart.blank.mapper.isSome = true ∧ OnPixel (drawing 0 1) ∧ OnPixel (drawing 239 256) ∧ ¬ OnPixel (drawing 239 257) ∧
      ¬ OnPixel (drawing (-1) 1) := by
  simp [OnPixel, drawing]
  decide

theorem witness_SpriteZeroHit :
    OnPixel (drawing 0 1) ∧ OnPixel (drawing 239 256) ∧ ¬ OnPixel (drawing 0 0) ∧
      (ppuClock Cart.blank { drawing 0 0 with status := 0x40 }).status.getLsbD 6 = true := by
  refine ⟨by simp [OnPixel, drawing], by simp [OnPixel, drawing], by simp [OnPixel, drawing], by decide⟩

theorem witness_FrameIs89342Clocks : CountersOk Ppu.reset ∧ CountersOk { Ppu.reset with scanline := 260, cycle := 340 } := by
  simp [CountersOk, Ppu.reset]

/-- A valid image with PRG bytes, and one whose header gives no bank at all. -/
theorem witness_LoadCartridgeBuildsTheCartridge :
    (loadCartridge (smallImage 16384) State.reset).2.cart.valid = true ∧
      (loadCartridge (List.replicate 16 0) State.reset).2.cart.valid = true ∧ (List.replicate 16 0#8).getD 5 0 = 0#8 :=
  ⟨(test_load_image 16384 rfl).2.1, by decide, by decide⟩

theorem witness_SystemResetSetsEveryRegister :
    State.reset.cart.mapper.isSome = true ∧ { Cart.blank with valid := false }.valid = false ∧
      (let c := { Cart.blank with mapperId := 1 }
      c.valid = true ∧ c.mapper = none) := by
  decide

theorem witness_HostCalls : State.reset.memoryOk = true ∧ 255 < 256 := by decide

theorem witness_StepKeepsInvariant : State.reset.Inv ∧ ∃ t, step State.reset = .next t :=
  ⟨⟨by decide, by decide, by decide, by decide⟩, next_of_nextOf (by decide)⟩

theorem witness_HostOperationsKeepInvariant :
    State.reset.Inv ∧ (∃ t, systemReset State.reset = .next t) ∧ ∃ t, setController 1 0xFF State.reset = .next t :=
  ⟨⟨by decide, by decide, by decide, by decide⟩, next_of_nextOf (by decide), ⟨_, rfl⟩⟩

/-- A draw that lists a last byte of each memory. -/
theorem witness_ResetMeetsInvariant :
    memInitOk
      { ram := [(2047, 0xFF)]
        nametable := [(2047, 1)]
        palette := [(31, 2)]
        oam := [(255, 3)]
        chrRam := [(8191, 4)] } = true := by
  decide

theorem witness_StepKeepsProgramAndParameters :
    (∃ t, step State.reset = .next t) ∧ State.reset.cart.chrBanks ≠ 0#8 ∧
      { State.reset with fault := some (.illegalOpcode 0x02 0x8000) }.fault = some (.illegalOpcode 0x02 0x8000) :=
  ⟨next_of_nextOf (by decide), by decide, rfl⟩

theorem witness_VblankOnlyAtItsClock :
    let s := { plain with tick := 1 }
    s.nmiIdle = true ∧ (∃ t, step s = .next t) ∧ ¬ (s.ppu.scanline = 241 ∧ s.ppu.cycle = 1) ∧ s.tick % 3 ≠ 0 :=
  ⟨by decide, next_of_nextOf (by decide), by decide, by decide⟩

end Sys2Proof.Tests
end

section
/-! ## What the CPU can do to the rest of the machine

`CpuMove s t` bounds everything an instruction, a fetch or an exception entry can change. It holds of each register
write and bus access, is transitive, and so holds of every instruction by its shape. -/

namespace Sys2Proof.Machine

/-- The PPU's pipeline state: what is left when the registers and memories the CPU's ports reach are blanked. -/
def Ppu.pipeline (p : Ppu) : Ppu :=
  { p with
    ctrl := 0, mask := 0, status := 0, v := 0, t := 0, fineX := 0, w := false, dataBuffer := 0, oamAddr := 0
    nametable := [], palette := [], oam := [] }

/-- Two PPUs with one pipeline differ in the port side only. -/
theorem Ppu.eq_of_pipeline {p q : Ppu} (h : q.pipeline = p.pipeline) :
    q = { p with
      ctrl := q.ctrl
      mask := q.mask
      status := q.status
      v := q.v
      t := q.t
      fineX := q.fineX
      w := q.w
      dataBuffer := q.dataBuffer
      oamAddr := q.oamAddr
      nametable := q.nametable
      palette := q.palette
      oam := q.oam } := by
  cases p
  cases q
  simpa [Ppu.pipeline] using h

/-- What no step changes: the program, the header, CHR-ROM, the parameters, `ready`, the live buttons, a recorded fault. -/
structure KeepsProgram (s t : State) : Prop where
  cart : t.cart = { s.cart with chr := t.cart.chr }
  chrRom : s.cart.chrBanks ≠ 0#8 → t.cart.chr = s.cart.chr
  params : t.params = s.params
  ready : t.ready = s.ready
  live1 : t.port1.live = s.port1.live
  live2 : t.port2.live = s.port2.live
  fault : ∀ f, s.fault = some f → t.fault = some f

theorem KeepsProgram.refl (s : State) : KeepsProgram s s := ⟨rfl, fun _ => rfl, rfl, rfl, rfl, rfl, fun _ => id⟩

theorem KeepsProgram.trans {s t u : State} (h : KeepsProgram s t) (k : KeepsProgram t u) : KeepsProgram s u where
  cart := by rw [k.cart, h.cart]
  chrRom hb := by
    have hb' : t.cart.chrBanks ≠ 0#8 := by rwa [h.cart]
    rw [k.chrRom hb', h.chrRom hb]
  params := k.params.trans h.params
  ready := k.ready.trans h.ready
  live1 := k.live1.trans h.live1
  live2 := k.live2.trans h.live2
  fault f hf := k.fault f (h.fault f hf)

/-- What the CPU's work can do outside its registers: `KeepsProgram`; the tick, the fault and the PPU's pipeline
unchanged; of Status only vblank cleared; the memories kept sound; B never set. -/
structure CpuMove (s t : State) : Prop extends KeepsProgram s t where
  tick : t.tick = s.tick
  noFault : t.fault = s.fault
  pipeline : t.ppu.pipeline = s.ppu.pipeline
  status : t.ppu.status = s.ppu.status ∨ t.ppu.status = s.ppu.status &&& 0x7F
  memory : s.memoryOk = true → t.memoryOk = true
  brk : s.flag .brk = false → t.flag .brk = false

@[simp] theorem CpuMove.refl (s : State) : CpuMove s s :=
  { KeepsProgram.refl s with tick := rfl, noFault := rfl, pipeline := rfl, status := .inl rfl, memory := id, brk := id }

theorem CpuMove.trans {s t u : State} (h : CpuMove s t) (k : CpuMove t u) : CpuMove s u where
  toKeepsProgram := h.toKeepsProgram.trans k.toKeepsProgram
  tick := k.tick.trans h.tick
  noFault := k.noFault.trans h.noFault
  pipeline := k.pipeline.trans h.pipeline
  status := by
    rcases h.status with h' | h' <;> rcases k.status with k' | k' <;> rw [k', h'] <;> simp [BitVec.and_assoc]
  memory := k.memory ∘ h.memory
  brk := k.brk ∘ h.brk

/-! ### Register writes -/

/-- A change of the CPU's registers that keeps B is of no account. -/
theorem cpuMove_withCpu {s t : State} {c : Cpu} (h : flagOf c.p .brk = t.flag .brk) :
    CpuMove s { t with cpu := c } ↔ CpuMove s t := by
  constructor
  · exact fun m => { m with brk := fun hs => h ▸ m.brk hs }
  · exact fun m => { m with brk := fun hs => h.trans (m.brk hs) }

section
variable {s t : State}

@[simp] theorem cpuMove_setA {v : Byte} : CpuMove s (t.setA v) ↔ CpuMove s t := cpuMove_withCpu rfl

@[simp] theorem cpuMove_setX {v : Byte} : CpuMove s (t.setX v) ↔ CpuMove s t := cpuMove_withCpu rfl

@[simp] theorem cpuMove_setY {v : Byte} : CpuMove s (t.setY v) ↔ CpuMove s t := cpuMove_withCpu rfl

@[simp] theorem cpuMove_setSp {v : Byte} : CpuMove s (t.setSp v) ↔ CpuMove s t := cpuMove_withCpu rfl

@[simp] theorem cpuMove_setPc {v : Word} : CpuMove s (t.setPc v) ↔ CpuMove s t := cpuMove_withCpu rfl

@[simp] theorem cpuMove_setCycles {n : Nat} : CpuMove s (t.setCycles n) ↔ CpuMove s t := cpuMove_withCpu rfl

@[simp] theorem cpuMove_setScratch {k : Scratch} : CpuMove s (t.setScratch k) ↔ CpuMove s t := cpuMove_withCpu rfl

@[simp] theorem cpuMove_noteEa {ea : Word} : CpuMove s (t.noteEa ea) ↔ CpuMove s t := cpuMove_withCpu rfl

@[simp] theorem cpuMove_noteRel {rel : Word} : CpuMove s (t.noteRel rel) ↔ CpuMove s t := cpuMove_withCpu rfl

@[simp] theorem cpuMove_noteFetched {m : Byte} : CpuMove s (t.noteFetched m) ↔ CpuMove s t := cpuMove_withCpu rfl

/-- A write of P is of no account when the byte written has the old B. -/
theorem cpuMove_setP {q : Byte} (h : flagOf q .brk = t.flag .brk) : CpuMove s (t.setP q) ↔ CpuMove s t :=
  cpuMove_withCpu (by simpa [flagOf_withFlag] using h)

@[simp] theorem cpuMove_setP_self : CpuMove s (t.setP t.cpu.p) ↔ CpuMove s t := cpuMove_setP rfl

@[simp] theorem cpuMove_setFlag {f : Flag} {b : Bool} (h : f ≠ .brk) : CpuMove s (t.setFlag f b) ↔ CpuMove s t :=
  cpuMove_setP (by simp [flagOf_withFlag, h, State.flag])

@[simp] theorem cpuMove_setZN {r : Byte} : CpuMove s (t.setZN r) ↔ CpuMove s t := by simp [State.setZN]

@[simp] theorem cpuMove_compareFlags {r m : Byte} : CpuMove s (t.compareFlags r m) ↔ CpuMove s t := by
  simp [State.compareFlags]

/-- PLP and RTI clear B whatever byte was pulled (44_stack.md R244). -/
theorem CpuMove.setP_pulled {b : Byte} (h : CpuMove s t) : CpuMove s (t.setP (statusPulled b)) :=
  have hb : flagOf (statusPulled b) .brk = false := by simp [statusPulled, flagOf, flagBit]
  { h with brk := fun _ => by simpa [State.flag, flagOf_withFlag] using hb }

@[simp] theorem cpuMove_startInstr {op : Byte} : CpuMove s (startInstr op t) ↔ CpuMove s t := by simp [startInstr]

@[simp] theorem cpuMove_finishInstr {op : Byte} {e : Bool} : CpuMove s (finishInstr op e t) ↔ CpuMove s t := by
  simp only [finishInstr]
  exact (cpuMove_setP rfl).trans cpuMove_setCycles

end

theorem finishInstr_unused (op : Byte) (e : Bool) (s : State) : (finishInstr op e s).flag .unused = true := by
  simp [State.flag]

/-! ### The bus, the stack and exceptions -/

/-- A port read leaves the pipeline, and of Status can only clear vblank (62_ppu.md R363). -/
theorem ppuRegRead_status (c : Cart) (p : Ppu) (r : Nat) :
    (ppuRegRead c p r).2.status = p.status &&& 0x7F ∨ (ppuRegRead c p r).2.status = p.status := by
  unfold ppuRegRead
  split
  · exact .inl rfl
  · exact .inr rfl
  · simp only [readVramData]
    split <;> exact .inr rfl
  · exact .inr rfl

/-- A port write leaves the pipeline and Status (62_ppu.md R361 to R369). -/
theorem ppuRegWrite_pipeline (c : Cart) (p : Ppu) (r : Nat) (d : Byte) :
    (ppuRegWrite c p r d).2.pipeline = p.pipeline ∧ (ppuRegWrite c p r d).2.status = p.status := by
  unfold ppuRegWrite
  split
  case h_5 => unfold writeScroll; split <;> exact ⟨rfl, rfl⟩
  case h_6 => unfold writeVramAddr; split <;> exact ⟨rfl, rfl⟩
  case h_7 =>
    simp only [writeVramData, ppuWrite]
    split
    · exact ⟨rfl, rfl⟩
    · split
      · exact ⟨rfl, rfl⟩
      · split <;> exact ⟨rfl, rfl⟩
  all_goals exact ⟨rfl, rfl⟩

/-- CHR-ROM is written by no access to the PPU's address space (63_cartridge.md R440). -/
theorem ppuWrite_chrRom {c : Cart} (p : Ppu) (a : Word) (v : Byte) (h : c.chrBanks ≠ 0#8) : (ppuWrite c p a v).1 = c := by
  have hm : c.ppuMapWrite (ppuAddr a) v = none := by
    unfold Cart.ppuMapWrite
    split <;> simp [h]
  simp only [ppuWrite, hm]
  split
  · rfl
  · split <;> rfl

theorem ppuRegWrite_chrRom {c : Cart} (p : Ppu) (r : Nat) (d : Byte) (h : c.chrBanks ≠ 0#8) : (ppuRegWrite c p r d).1 = c := by
  unfold ppuRegWrite
  split
  case h_7 => exact ppuWrite_chrRom p p.v d h
  all_goals rfl

/-- What a bus read can do to the machine (20_memory.md R104 to R114). -/
theorem memRead_cases (a : Word) (s : State) :
    (memRead a s).2 = s ∨ (memRead a s).2 = { s with ppu := (ppuRegRead s.cart s.ppu (ppuPort a)).2 } ∨
      (memRead a s).2 = { s with port1 := (portRead s.params s.port1).2 } ∨
      (memRead a s).2 = { s with port2 := (portRead s.params s.port2).2 } := by
  unfold memRead
  split
  · exact .inl rfl
  · split
    · exact .inl rfl
    · split
      · exact .inr (.inl rfl)
      · split
        · exact .inr (.inr (.inl rfl))
        · split
          · exact .inr (.inr (.inr rfl))
          · exact .inl rfl

/-- What a bus write can do to the machine (20_memory.md R105 to R115). -/
theorem memWrite_cases (a : Word) (v : Byte) (s : State) :
    memWrite a v s = s ∨ memWrite a v s = { s with ram := s.ram.write (ramIndex a) v } ∨
      memWrite a v s =
        { s with
          cart := (ppuRegWrite s.cart s.ppu (ppuPort a) v).1
          ppu := (ppuRegWrite s.cart s.ppu (ppuPort a) v).2 } ∨
      memWrite a v s = oamDma v s ∨ memWrite a v s = { s with port1 := portWrite v s.port1 } ∨
      memWrite a v s = { s with port2 := portWrite v s.port2 } := by
  unfold memWrite
  split
  · rename_i c hc
    rw [Cart.cpuMapWrite_some hc]
    exact .inl rfl
  · split
    · exact .inr (.inl rfl)
    · split
      · exact .inr (.inr (.inl rfl))
      · split
        · exact .inr (.inr (.inr (.inl rfl)))
        · split
          · exact .inr (.inr (.inr (.inr (.inl rfl))))
          · split
            · exact .inr (.inr (.inr (.inr (.inr rfl))))
            · exact .inl rfl

theorem portRead_live (params : Params) (c : Port) : (portRead params c).2.live = c.live := by
  unfold portRead
  dsimp only
  split <;> rfl

theorem ppuRegRead_pipeline (c : Cart) (p : Ppu) (r : Nat) : (ppuRegRead c p r).2.pipeline = p.pipeline := by
  rw [ppuRegRead_eq]
  rfl

theorem cpuMove_memRead (a : Word) (s : State) : CpuMove s (memRead a s).2 := by
  have hm : s.memoryOk = true → (memRead a s).2.memoryOk = true := by rw [memRead_memoryOk]; exact id
  rcases memRead_cases a s with h | h | h | h <;> rw [h] at hm ⊢
  · exact .refl s
  · exact { CpuMove.refl s with
      pipeline := ppuRegRead_pipeline .., status := (ppuRegRead_status ..).symm, memory := hm }
  · exact { CpuMove.refl s with live1 := portRead_live .., memory := hm }
  · exact { CpuMove.refl s with live2 := portRead_live .., memory := hm }

theorem cpuMove_memWrite (a : Word) (v : Byte) (s : State) : CpuMove s (memWrite a v s) := by
  have hm : s.memoryOk = true → (memWrite a v s).memoryOk = true := memWrite_memoryOk a v
  rcases memWrite_cases a v s with h | h | h | h | h | h <;> rw [h] at hm ⊢
  · exact .refl s
  · exact { CpuMove.refl s with memory := hm }
  · obtain ⟨hp, hst⟩ := ppuRegWrite_pipeline s.cart s.ppu (ppuPort a) v
    exact { CpuMove.refl s with
      cart := ppuRegWrite_cart .., chrRom := fun hb => congrArg Cart.chr (ppuRegWrite_chrRom _ _ _ hb)
      pipeline := hp, status := .inl hst, memory := hm }
  · revert hm
    unfold oamDma
    generalize dmaCopy s.ram v s.ppu.oam 256 = oam
    exact fun hm => { CpuMove.refl s with memory := hm }
  · exact { CpuMove.refl s with memory := hm }
  · exact { CpuMove.refl s with memory := hm }

theorem CpuMove.memRead {s t : State} (h : CpuMove s t) (a : Word) : CpuMove s (memRead a t).2 :=
  h.trans (cpuMove_memRead a t)

theorem CpuMove.memWrite {s t : State} (h : CpuMove s t) (a : Word) (v : Byte) : CpuMove s (memWrite a v t) :=
  h.trans (cpuMove_memWrite a v t)

section
variable {s t : State}

theorem CpuMove.push (h : CpuMove s t) (v : Byte) : CpuMove s (push v t) := cpuMove_setSp.mpr (h.memWrite _ v)

theorem CpuMove.pushWord (h : CpuMove s t) (w : Word) : CpuMove s (pushWord w t) := (h.push _).push _

theorem CpuMove.pull (h : CpuMove s t) : CpuMove s (pull t).2 := (cpuMove_setSp.mpr h).memRead _

theorem CpuMove.pullWord (h : CpuMove s t) : CpuMove s (pullWord t).2 := h.pull.pull

theorem CpuMove.memReadWord (h : CpuMove s t) (a : Word) : CpuMove s (memReadWord a t).2 := (h.memRead a).memRead _

theorem CpuMove.takeException (h : CpuMove s t) (pc : Word) (status : Byte) (vector : Word) :
    CpuMove s (takeException pc status vector t) :=
  cpuMove_setPc.mpr (((cpuMove_setFlag (by decide)).mpr ((h.pushWord pc).push status)).memReadWord vector)

theorem CpuMove.interruptEntry (h : CpuMove s t) (vector : Word) (n : Nat) : CpuMove s (interruptEntry vector n t) :=
  cpuMove_setCycles.mpr (h.takeException ..)

theorem CpuMove.returnFromException (h : CpuMove s t) : CpuMove s (returnFromException t) :=
  cpuMove_setPc.mpr (h.pull.setP_pulled.pullWord)

end

/-! ### Addressing modes and effects -/

/-- Every use of an addressing mode is a `CpuMove`. -/
def ModeMoves (mode : State → Addressed) : Prop := ∀ s, CpuMove s (mode s).after

/-- Every use of an operation over an operand byte or word is a `CpuMove`. -/
def EffectMoves {α : Type} (effect : α → State → State) : Prop := ∀ m s, CpuMove s (effect m s)

@[simp] theorem modeMoves_zp0 (zp : Byte) : ModeMoves (modeZp0 zp) := fun s => cpuMove_noteEa.mpr (.refl s)

@[simp] theorem modeMoves_zpx (zp : Byte) : ModeMoves (modeZpx zp) := fun s => cpuMove_noteEa.mpr (.refl s)

@[simp] theorem modeMoves_zpy (zp : Byte) : ModeMoves (modeZpy zp) := fun s => cpuMove_noteEa.mpr (.refl s)

@[simp] theorem modeMoves_abs (addr : Word) : ModeMoves (modeAbs addr) := fun s => cpuMove_noteEa.mpr (.refl s)

@[simp] theorem modeMoves_abx (addr : Word) : ModeMoves (modeAbx addr) := fun s => cpuMove_noteEa.mpr (.refl s)

@[simp] theorem modeMoves_aby (addr : Word) : ModeMoves (modeAby addr) := fun s => cpuMove_noteEa.mpr (.refl s)

@[simp] theorem modeMoves_ind (ptr : Word) : ModeMoves (modeInd ptr) :=
  fun s => cpuMove_noteEa.mpr ((cpuMove_memRead ptr s).memRead _)

@[simp] theorem modeMoves_izx (zp : Byte) : ModeMoves (modeIzx zp) := fun s => by
  rw [modeIzx_eq]
  exact cpuMove_noteEa.mpr (.refl s)

@[simp] theorem modeMoves_izy (zp : Byte) : ModeMoves (modeIzy zp) := fun s => by
  rw [modeIzy_eq]
  exact cpuMove_noteEa.mpr (.refl s)

@[simp] theorem effectMoves_adc : EffectMoves opAdc := by simp [EffectMoves, opAdc]

@[simp] theorem effectMoves_sbc : EffectMoves opSbc := by simp [EffectMoves, opSbc]

@[simp] theorem effectMoves_and : EffectMoves opAnd := by simp [EffectMoves, opAnd]

@[simp] theorem effectMoves_ora : EffectMoves opOra := by simp [EffectMoves, opOra]

@[simp] theorem effectMoves_eor : EffectMoves opEor := by simp [EffectMoves, opEor]

@[simp] theorem effectMoves_bit : EffectMoves opBit := by simp [EffectMoves, opBit]

@[simp] theorem effectMoves_cmp : EffectMoves opCmp := by simp [EffectMoves, opCmp]

@[simp] theorem effectMoves_cpx : EffectMoves opCpx := by simp [EffectMoves, opCpx]

@[simp] theorem effectMoves_cpy : EffectMoves opCpy := by simp [EffectMoves, opCpy]

@[simp] theorem effectMoves_lda : EffectMoves opLda := by simp [EffectMoves, opLda]

@[simp] theorem effectMoves_ldx : EffectMoves opLdx := by simp [EffectMoves, opLdx]

@[simp] theorem effectMoves_ldy : EffectMoves opLdy := by simp [EffectMoves, opLdy]

@[simp] theorem effectMoves_jmp : EffectMoves opJmp := by simp [EffectMoves, opJmp]

@[simp] theorem effectMoves_jsr : EffectMoves opJsr := fun _ s => cpuMove_setPc.mpr ((CpuMove.refl s).pushWord _)

@[simp] theorem effectMoves_inc : EffectMoves fun m u => (opInc m u).2 := by simp [EffectMoves, opInc]

@[simp] theorem effectMoves_dec : EffectMoves fun m u => (opDec m u).2 := by simp [EffectMoves, opDec]

@[simp] theorem effectMoves_asl : EffectMoves fun m u => (opAsl m u).2 := by simp [EffectMoves, opAsl]

@[simp] theorem effectMoves_lsr : EffectMoves fun m u => (opLsr m u).2 := by simp [EffectMoves, opLsr]

@[simp] theorem effectMoves_rol : EffectMoves fun m u => (opRol m u).2 := by simp [EffectMoves, opRol]

@[simp] theorem effectMoves_ror : EffectMoves fun m u => (opRor m u).2 := by simp [EffectMoves, opRor]

/-! ### Instruction shapes -/

/-- An instruction answers a next state that a `CpuMove` reaches, with U set. -/
def Moves (s : State) (o : Host.Outcome State Fault Refusal) : Prop :=
  ∃ t, o = .next t ∧ CpuMove s t ∧ t.flag .unused = true

section
variable {s : State} {op : Byte}

theorem CpuMove.finish {t : State} (h : CpuMove s t) (e : Bool) : Moves s (.next (finishInstr op e t)) :=
  ⟨_, rfl, cpuMove_finishInstr.mpr h, finishInstr_unused ..⟩

theorem cpuMove_start : CpuMove s (startInstr op s) := cpuMove_startInstr.mpr (.refl s)

theorem runImm_moves {effect : Byte → State → State} {m : Byte} (he : EffectMoves effect) : Moves s (runImm op effect m s) :=
  ((cpuMove_noteFetched.mpr (cpuMove_noteEa.mpr cpuMove_start)).trans (he ..)).finish _

theorem runRead_moves {o : Bool} {mode : State → Addressed} {effect : Byte → State → State} (hm : ModeMoves mode)
    (he : EffectMoves effect) : Moves s (runRead op o mode effect s) :=
  ((cpuMove_noteFetched.mpr ((cpuMove_start.trans (hm _)).memRead _)).trans (he ..)).finish _

theorem runStore_moves {mode : State → Addressed} {value : State → Byte} (hm : ModeMoves mode) :
    Moves s (runStore op mode value s) :=
  ((cpuMove_start.trans (hm _)).memWrite ..).finish _

theorem runModify_moves {mode : State → Addressed} {effect : Byte → State → Byte × State} (hm : ModeMoves mode)
    (he : EffectMoves fun m u => (effect m u).2) : Moves s (runModify op mode effect s) :=
  (((cpuMove_noteFetched.mpr ((cpuMove_start.trans (hm _)).memRead _)).trans (he ..)).memWrite ..).finish _

theorem runModifyA_moves {effect : Byte → State → Byte × State} (he : EffectMoves fun m u => (effect m u).2) :
    Moves s (runModifyA op effect s) :=
  (cpuMove_setA.mpr ((cpuMove_noteFetched.mpr cpuMove_start).trans (he ..))).finish _

theorem runImplied_moves {effect : State → State} (he : ∀ u, CpuMove u (effect u)) : Moves s (runImplied op effect s) :=
  (cpuMove_start.trans (he _)).finish _

theorem runTarget_moves {mode : State → Addressed} {effect : Word → State → State} (hm : ModeMoves mode)
    (he : EffectMoves effect) : Moves s (runTarget op mode effect s) :=
  ((cpuMove_start.trans (hm _)).trans (he ..)).finish _

theorem runBranch_moves {cond : State → Bool} {rel : Byte} : Moves s (runBranch op cond rel s) := by
  refine CpuMove.finish ?_ _
  unfold branchTo
  split <;> simp

end

/-- Every instruction answers a next state, with U set and everything outside the CPU's reach unchanged. -/
theorem exec_moves (i : Instr) (s : State) : Moves s (exec i s) := by
  cases i <;> dsimp only [exec]
  case oraImm | andImm | eorImm | adcImm | ldyImm | ldxImm | ldaImm | cpyImm | cmpImm | cpxImm | sbcImm =>
    exact runImm_moves (by simp)
  case oraIzx | oraZp0 | oraAbs | oraIzy | oraZpx | oraAby | oraAbx | andIzx | bitZp0 | andZp0 | bitAbs | andAbs
    | andIzy | andZpx | andAby | andAbx | eorIzx | eorZp0 | eorAbs | eorIzy | eorZpx | eorAby | eorAbx | adcIzx
    | adcZp0 | adcAbs | adcIzy | adcZpx | adcAby | adcAbx | ldaIzx | ldyZp0 | ldaZp0 | ldxZp0 | ldyAbs | ldaAbs
    | ldxAbs | ldaIzy | ldyZpx | ldaZpx | ldxZpy | ldaAby | ldyAbx | ldaAbx | ldxAby | cmpIzx | cpyZp0 | cmpZp0
    | cpyAbs | cmpAbs | cmpIzy | cmpZpx | cmpAby | cmpAbx | sbcIzx | cpxZp0 | sbcZp0 | cpxAbs | sbcAbs | sbcIzy
    | sbcZpx | sbcAby | sbcAbx =>
    exact runRead_moves (by simp) (by simp)
  case staIzx | styZp0 | staZp0 | stxZp0 | styAbs | staAbs | stxAbs | staIzy | styZpx | staZpx | stxZpy | staAby
    | staAbx =>
    exact runStore_moves (by simp)
  case aslZp0 | aslAbs | aslZpx | aslAbx | rolZp0 | rolAbs | rolZpx | rolAbx | lsrZp0 | lsrAbs | lsrZpx | lsrAbx
    | rorZp0 | rorAbs | rorZpx | rorAbx | decZp0 | decAbs | decZpx | decAbx | incZp0 | incAbs | incZpx | incAbx =>
    exact runModify_moves (by simp) (by simp)
  case aslAcc | rolAcc | lsrAcc | rorAcc =>
    exact runModifyA_moves (by simp)
  case jsr | jmpAbs | jmpInd =>
    exact runTarget_moves (by simp) (by simp)
  case bpl | bmi | bvc | bvs | bcc | bcs | bne | beq =>
    exact runBranch_moves
  case clc | sec | cli | sei | clv | cld | sed | inx | iny | dex | dey | tax | tay | txa | tya | tsx | txs | nop =>
    exact runImplied_moves (by simp [opClc, opSec, opCli, opSei, opClv, opCld, opSed, opInx, opIny, opDex, opDey,
      opTax, opTay, opTxa, opTya, opTsx, opTxs, opNop])
  case pha => exact runImplied_moves fun u => (CpuMove.refl u).push _
  case php => exact runImplied_moves fun u => (CpuMove.refl u).push _
  case pla => exact runImplied_moves fun u => cpuMove_setZN.mpr (cpuMove_setA.mpr (CpuMove.refl u).pull)
  case plp => exact runImplied_moves fun u => (CpuMove.refl u).pull.setP_pulled
  case rts => exact runImplied_moves fun u => cpuMove_setPc.mpr (CpuMove.refl u).pullWord
  case rti => exact runImplied_moves fun u => (CpuMove.refl u).returnFromException
  case brk => exact runImplied_moves fun u => (cpuMove_setPc.mpr (.refl u)).takeException ..

/-- Settles O26: every instruction is a `CpuMove`, which keeps the pipeline and can only clear vblank. -/
theorem instructionsLeaveThePipeline : Obligations.InstructionsLeaveThePipeline := by
  intro i s t h
  obtain ⟨u, hu, hmove, -⟩ := exec_moves i s
  obtain rfl : u = t := Host.Outcome.next.inj (hu.symm.trans h)
  exact ⟨Ppu.eq_of_pipeline hmove.pipeline, hmove.status⟩

end Sys2Proof.Machine
end

section
/-! ## What keeps the machine sound -/

namespace Sys2Proof.Machine

/-! ### The PPU's clock -/

/-- The PPU at line `l`, clock `k`, with its sprite list, reserved bits and frame sound (10_state.md R52, R58, R60, R64). -/
structure Ppu.SoundAt (l : Int) (k : Nat) (p : Ppu) : Prop where
  scanline : p.scanline = l
  cycle : p.cycle = k
  spriteCount : p.spriteCount ≤ 8
  slots : p.slots.length = 8
  status : p.status &&& 0x1F = 0
  attr : p.bgNextAttr &&& 0xFC = 0
  frameRising : frameWfFrom 0 p.frame = true
  frameBelow : p.frame.all (fun c => decide (c.1 < 61440)) = true

/-- Setting bits above the reserved ones keeps those 0. -/
theorem status_or_reserved {st m : Byte} (h : st &&& 0x1F = 0) (hm : m &&& 0x1F = 0) : (st ||| m) &&& 0x1F = 0 := by
  rw [BitVec.and_or_distrib_right, h, hm]
  rfl

/-- Clearing bits keeps the reserved ones 0. -/
theorem status_and_reserved {st : Byte} (m : Byte) (h : st &&& 0x1F = 0) : st &&& m &&& 0x1F = 0 := by
  rw [BitVec.and_assoc, BitVec.and_comm m, ← BitVec.and_assoc, h]
  simp

/-- The pixel step writes one cell of the frame, the current pixel's (62_ppu.md R393). -/
theorem composite_frame (c : Cart) (p : Ppu) :
    ∃ colour, (composite c p).frame = frameWrite p.frame (frameIndex p) colour := by
  unfold composite spriteZeroCheck
  dsimp only
  split
  · split <;> exact ⟨_, rfl⟩
  · exact ⟨_, rfl⟩

section
variable {l : Int} {k : Nat} {p : Ppu}

theorem Ppu.SoundAt.onlyIf (h : p.SoundAt l k) {b : Bool} {f : Ppu → Ppu} (hf : b = true → (f p).SoundAt l k) :
    (onlyIf b f p).SoundAt l k := by
  unfold Machine.onlyIf
  split
  · exact hf ‹_›
  · exact h

theorem Ppu.SoundAt.preRenderClear (h : p.SoundAt l k) : (preRenderClear p).SoundAt l k :=
  { h with
    spriteCount := Nat.zero_le 8
    slots := by simpa [Machine.preRenderClear] using h.slots
    status := status_and_reserved _ h.status }

theorem Ppu.SoundAt.updateSprites (h : p.SoundAt l k) : (updateSprites p).SoundAt l k :=
  { h with slots := by simpa [Machine.updateSprites] using h.slots }

theorem Ppu.SoundAt.subPhase (h : p.SoundAt l k) (c : Cart) : (subPhase c p).SoundAt l k := by
  have ha : (Machine.subPhase c p).bgNextAttr &&& 0xFC = 0 := by
    unfold Machine.subPhase
    split
    case h_2 => exact attributeBits_two ..
    case h_5 => split <;> exact h.attr
    all_goals exact h.attr
  rw [subPhase_eq]
  exact { h with attr := ha }

theorem Ppu.SoundAt.windowWork (h : p.SoundAt l k) (c : Cart) : (windowWork c p).SoundAt l k :=
  have hs : (shiftBackground p).SoundAt l k := { h with }
  (hs.onlyIf fun _ => hs.updateSprites).subPhase c

theorem Ppu.SoundAt.horizontalReload (h : p.SoundAt l k) : (horizontalReload p).SoundAt l k :=
  have hs : (loadBgShifters p).SoundAt l k := { h with }
  hs.onlyIf fun _ => { hs with }

theorem Ppu.SoundAt.spriteEval (h : p.SoundAt l k) : (spriteEval p).SoundAt l k := by
  obtain ⟨hlen, hcount, hst⟩ := scanOam_bounds 64 0
    { p with spriteCount := 0, spriteZeroPossible := false, slots := p.slots.map clearShift } (Nat.zero_le 8)
  rw [spriteEval_eq]
  exact { h with
    spriteCount := hcount
    slots := hlen.trans (by simpa using h.slots)
    status := by
      rcases hst with e | e <;> dsimp only [Machine.spriteEval] <;> rw [e]
      · exact h.status
      · exact status_or_reserved h.status rfl }

theorem Ppu.SoundAt.loadSpriteShifters (h : p.SoundAt l k) (c : Cart) : (loadSpriteShifters c p).SoundAt l k :=
  { h with slots := by simpa [Machine.loadSpriteShifters] using h.slots }

/-- The work of lines -1 to 239 keeps the position and the PPU sound (62_ppu.md R372). -/
theorem Ppu.SoundAt.fetchLineWork (h : p.SoundAt l k) (c : Cart) : (fetchLineWork c p).SoundAt l k :=
  have h₁ := h.onlyIf (b := decide (p.scanline = -1) && decide (p.cycle = 1)) fun _ => h.preRenderClear
  have h₂ := h₁.onlyIf (b := inFetchWindow p.cycle) fun _ => h₁.windowWork c
  have h₃ := h₂.onlyIf (b := decide (p.cycle = 256) && rendering p) (f := fun q => { q with v := incY q.v })
    fun _ => { h₂ with }
  have h₄ := h₃.onlyIf (b := decide (p.cycle = 257)) fun _ => h₃.horizontalReload
  have h₅ := h₄.onlyIf (b := decide (p.cycle = 257) && decide (0 ≤ p.scanline))
    (f := fun q => Machine.loadSpriteShifters c (Machine.spriteEval q)) fun _ => h₄.spriteEval.loadSpriteShifters c
  h₅.onlyIf (f := fun q => { q with v := transferY q.v q.t }) fun _ => { h₅ with }

theorem Ppu.SoundAt.vblankStart (h : p.SoundAt l k) : (vblankStart p).SoundAt l k :=
  { h with status := status_or_reserved h.status rfl }

/-- On the lines and clocks that draw, the pixel step keeps the PPU sound: its cell is one of the frame's (62_ppu.md R393). -/
theorem Ppu.SoundAt.composite (h : p.SoundAt l k) (c : Cart) (hl : l ≤ 239) (hk : k ≤ 256) :
    (composite c p).SoundAt l k := by
  obtain ⟨he, hst⟩ := composite_eq c p
  have hi : frameIndex p < 61440 := by
    have hs := h.scanline
    have hc := h.cycle
    unfold frameIndex
    omega
  obtain ⟨colour, hframe⟩ := composite_frame c p
  rw [he]
  exact { h with
    status := by
      rcases hst with e | e <;> dsimp only <;> rw [e]
      · exact h.status
      · exact status_or_reserved h.status rfl
    frameRising := by
      dsimp only
      rw [hframe]
      exact frameWrite_wfFrom colour (Nat.zero_le _) h.frameRising
    frameBelow := by
      dsimp only
      rw [hframe]
      exact frameWrite_below colour hi h.frameBelow }

/-- A clock's position advances within its ranges (62_ppu.md R394). -/
theorem advance_position (p : Ppu) (hl : -1 ≤ p.scanline) (hl' : p.scanline ≤ 260) (hk : p.cycle ≤ 340) :
    -1 ≤ (advance p).scanline ∧ (advance p).scanline ≤ 260 ∧ (advance p).cycle ≤ 340 := by
  unfold advance
  split
  · exact ⟨hl, hl', by simp only; omega⟩
  · split <;> simp only <;> omega

/-- A PPU clock keeps the PPU sound, at a position in range (62_ppu.md R372, R394). -/
theorem Ppu.SoundAt.ppuClock (h : p.SoundAt l k) (c : Cart) (hl : -1 ≤ l) (hl' : l ≤ 260) (hk : k ≤ 340) :
    ∃ l' k', (ppuClock c p).SoundAt l' k' ∧ -1 ≤ l' ∧ l' ≤ 260 ∧ k' ≤ 340 := by
  have h₁ := h.onlyIf (b := decide (-1 ≤ p.scanline) && decide (p.scanline ≤ 239)) fun _ => h.fetchLineWork c
  have h₂ := h₁.onlyIf (b := decide (p.scanline = 241) && decide (p.cycle = 1)) fun _ => h₁.vblankStart
  have h₃ := h₂.onlyIf (b := decide (0 ≤ p.scanline) && decide (p.scanline ≤ 239) && decide (1 ≤ p.cycle) &&
    decide (p.cycle ≤ 256)) (f := Machine.composite c) fun hb => by
      simp only [Bool.and_eq_true, decide_eq_true_eq, h.scanline, h.cycle] at hb
      exact h₂.composite c (by omega) (by omega)
  have hpos := advance_position _ (by rw [h₃.scanline]; exact hl) (by rw [h₃.scanline]; exact hl')
    (by rw [h₃.cycle]; exact hk)
  refine ⟨_, _, ?_, hpos⟩
  unfold Machine.ppuClock
  dsimp only
  rw [advance_eq]
  exact { h₃ with scanline := rfl, cycle := rfl }

end

/-- A PPU clock writes no memory of the CPU's side (62_ppu.md R372, 20_memory.md R126). -/
theorem ppuClock_portSide (c : Cart) (p : Ppu) : (ppuClock c p).portSide = p.portSide := by
  unfold ppuClock
  dsimp only
  rw [advance_eq]
  refine (onlyIf_keeps Ppu.portSide fun _ => ?_).trans <| (onlyIf_keeps Ppu.portSide fun _ => ?_).trans
    (onlyIf_keeps Ppu.portSide fun _ => fetchLineWork_portSide c _)
  · rw [(composite_eq ..).1]
    rfl
  · rfl

/-! ### The sound state by its parts -/

/-- `Inv` without the clause on NMI requests, which holds only between ticks. -/
def State.Sound (s : State) : Prop := s.memoryOk = true ∧ s.statusOk = true ∧ s.ppuOk = true

theorem inv_iff (s : State) : s.Inv ↔ s.Sound ∧ s.nmiIdle = true := by simp [State.Inv, State.Sound, and_assoc]

theorem statusOk_iff (s : State) : s.statusOk = true ↔ s.flag .unused = true ∧ s.flag .brk = false := by
  simp [State.statusOk]

/-- `ppuOk`, clause by clause. -/
theorem ppuOk_iff (s : State) :
    s.ppuOk = true ↔
      (-1 ≤ s.ppu.scanline ∧ s.ppu.scanline ≤ 260 ∧ s.ppu.cycle ≤ 340) ∧ s.ppu.spriteCount ≤ 8 ∧
      s.ppu.slots.length = 8 ∧ s.ppu.status &&& 0x1F = 0 ∧ s.ppu.bgNextAttr &&& 0xFC = 0 := by
  simp only [State.ppuOk, Bool.and_eq_true, decide_eq_true_eq, and_assoc]

theorem nmiIdle_iff (s : State) : s.nmiIdle = true ↔ s.ppu.nmiRequest = false ∨ s.fault.isSome = true := by
  simp [State.nmiIdle]

section
variable {s t : State}

/-- The PPU's part of a tick keeps the machine sound. -/
theorem State.Sound.tickPpu (h : s.Sound) : (tickPpu s).Sound := by
  obtain ⟨hmem, hst, hppu⟩ := h
  obtain ⟨hr, hn, hp, ho, hc, hrise, hbelow⟩ := (memoryOk_iff s).mp hmem
  obtain ⟨⟨hl, hl', hk⟩, hcount, hslots, hbits, hattr⟩ := (ppuOk_iff s).mp hppu
  have hs : s.ppu.SoundAt s.ppu.scanline s.ppu.cycle := ⟨rfl, rfl, hcount, hslots, hbits, hattr, hrise, hbelow⟩
  obtain ⟨l, k, ht, htl, htl', htk⟩ := hs.ppuClock s.cart hl hl' hk
  have hside := ppuClock_portSide s.cart s.ppu
  simp only [Ppu.portSide, Prod.mk.injEq] at hside
  obtain ⟨-, -, -, -, -, -, -, en, ep, eo⟩ := hside
  refine ⟨(memoryOk_iff _).mpr ⟨hr, ?_, ?_, ?_, hc, ht.frameRising, ht.frameBelow⟩, hst, (ppuOk_iff _).mpr
    ⟨ht.scanline.symm ▸ ht.cycle.symm ▸ ⟨htl, htl', htk⟩, ht.spriteCount, ht.slots, ht.status, ht.attr⟩⟩
  · exact en.symm ▸ hn
  · exact ep.symm ▸ hp
  · exact eo.symm ▸ ho

/-- The CPU's work keeps the machine sound when it leaves U set. -/
theorem CpuMove.sound (h : CpuMove s t) (hu : t.flag .unused = true) (hs : s.Sound) : t.Sound := by
  obtain ⟨hmem, hst, hppu⟩ := hs
  obtain ⟨hpos, hcount, hslots, hbits, hattr⟩ := (ppuOk_iff s).mp hppu
  have hpipe : ∀ {α : Type} (g : Ppu → α), g t.ppu.pipeline = g s.ppu.pipeline := fun g => congrArg g h.pipeline
  have el : t.ppu.scanline = s.ppu.scanline := hpipe Ppu.scanline
  have ek : t.ppu.cycle = s.ppu.cycle := hpipe Ppu.cycle
  have ec : t.ppu.spriteCount = s.ppu.spriteCount := hpipe Ppu.spriteCount
  have es : t.ppu.slots = s.ppu.slots := hpipe Ppu.slots
  have ea : t.ppu.bgNextAttr = s.ppu.bgNextAttr := hpipe Ppu.bgNextAttr
  have ht : t.ppu.status &&& 0x1F = 0 := by
    rcases h.status with e | e <;> rw [e]
    · exact hbits
    · exact status_and_reserved _ hbits
  refine ⟨h.memory hmem, (statusOk_iff t).mpr ⟨hu, h.brk ((statusOk_iff s).mp hst).2⟩, (ppuOk_iff t).mpr ?_⟩
  rw [el, ek, ec, es, ea]
  exact ⟨hpos, hcount, hslots, ht, hattr⟩

/-! ### The CPU's clock -/

theorem CpuMove.fetchByte (h : CpuMove s t) : CpuMove s (fetchByte t).2 := cpuMove_setPc.mpr (h.memRead _)

theorem CpuMove.readOperands (h : CpuMove s t) (f : Form) : CpuMove s (readOperands f t).2 := by
  cases f with
  | implied i => exact h
  | padded i => exact h
  | byte g => exact h.fetchByte
  | word g => exact h.fetchByte.fetchByte

/-- The work of an Idle clock: a `CpuMove`, with a fault recorded at its end when the opcode is illegal; U is set. -/
theorem executeInstruction_moves (h : executeInstruction s = .next t) :
    t.flag .unused = true ∧ (CpuMove s t ∨ ∃ u f, CpuMove s u ∧ t = raiseFault f u) := by
  have hop : CpuMove s (Machine.fetchByte (s.setP s.cpu.p)).2 := (cpuMove_setP_self.mpr (.refl s)).fetchByte
  rcases executeInstruction_cases h with ⟨-, e⟩ | ⟨row, -, e⟩
  · cases e
    exact ⟨by simp [Machine.fetchByte, raiseFault, State.flag], .inr ⟨_, _, hop, rfl⟩⟩
  · obtain ⟨u, hu, hmove, hflag⟩ := exec_moves (Machine.readOperands row.form (Machine.fetchByte (s.setP s.cpu.p)).2).1
      (Machine.readOperands row.form (Machine.fetchByte (s.setP s.cpu.p)).2).2
    cases e.trans hu
    exact ⟨hflag, .inl ((hop.readOperands row.form).trans hmove)⟩

/-- An exception entry through a vector sets U (60_exceptions.md R314). -/
theorem interruptEntry_unused {vector : Word} (n : Nat) (s : State) (h : 0x8000 ≤ vector.toNat)
    (h' : 0x8000 ≤ (vector + 1).toNat) : (interruptEntry vector n s).flag .unused = true := by
  rw [interruptEntry_eq n s h h']
  exact flagOf_withFlag_same ..

/-- A CPU clock: a `CpuMove` that keeps U, with a fault recorded at its end only in a machine that had none. -/
theorem cpuClock_moves (h : cpuClock s = .next t) :
    (s.flag .unused = true → t.flag .unused = true) ∧
      (CpuMove s t ∨ s.fault = none ∧ ∃ u f, CpuMove s u ∧ t = raiseFault f u) := by
  rcases cpuClock_cases h with ⟨-, rfl⟩ | ⟨-, -, rfl⟩ | ⟨-, -, -, -, rfl⟩ | ⟨hf, -, -, u, hu, rfl⟩
  · exact ⟨id, .inl (.refl _)⟩
  · exact ⟨id, .inl (cpuMove_setCycles.mpr (.refl s))⟩
  · exact ⟨fun _ => interruptEntry_unused _ s (by decide) (by decide),
      .inl (cpuMove_setCycles.mpr ((CpuMove.refl s).interruptEntry ..))⟩
  · obtain ⟨hflag, hmove⟩ := executeInstruction_moves hu
    unfold afterIdleWork
    split
    · exact ⟨fun _ => hflag, hmove.imp_right fun hr => ⟨hf, hr⟩⟩
    · rename_i hnone
      refine ⟨fun _ => hflag, .inl (cpuMove_setCycles.mpr ?_)⟩
      rcases hmove with hmove | ⟨v, f, -, rfl⟩
      · exact hmove
      · exact absurd rfl hnone

theorem cpuClock_sound (h : cpuClock s = .next t) (hs : s.Sound) : t.Sound := by
  obtain ⟨hflag, hmove⟩ := cpuClock_moves h
  have hu := hflag ((statusOk_iff s).mp hs.2.1).1
  rcases hmove with hmove | ⟨-, u, f, hmove, rfl⟩
  · exact hmove.sound hu hs
  · exact hmove.sound hu hs

/-! ### The end of a tick -/

theorem nmiEntry_moves (s : State) : CpuMove s (nmiEntry s) := (CpuMove.refl s).interruptEntry ..

/-- The NMI test keeps the machine sound and leaves no request pending (61_system_clock.md R343). -/
theorem deliverNmi_sound (h : s.Sound) : (deliverNmi s).Sound ∧ (deliverNmi s).ppu.nmiRequest = false := by
  unfold deliverNmi
  split
  · have hmove := nmiEntry_moves { s with ppu := { s.ppu with nmiRequest := false } }
    exact ⟨hmove.sound (interruptEntry_unused _ _ (by decide) (by decide)) h, congrArg Ppu.nmiRequest hmove.pipeline⟩
  · exact ⟨h, Bool.eq_false_of_not_eq_true ‹_›⟩

theorem endTick_inv (h : s.Sound) : (endTick s).Inv := by
  obtain ⟨hsound, hnmi⟩ := deliverNmi_sound h
  exact (inv_iff _).mpr ⟨hsound, (nmiIdle_iff _).mpr (.inl hnmi)⟩

theorem afterCpu_inv (h : s.Sound) : (afterCpu s).Inv := by
  unfold afterCpu
  split
  · exact (inv_iff s).mpr ⟨h, (nmiIdle_iff s).mpr (.inr ‹_›)⟩
  · exact endTick_inv h

end

/-- Settles O56: the PPU's clock, the CPU's clock and the end of the tick each keep the machine sound. -/
theorem stepKeepsInvariant : Obligations.StepKeepsInvariant := by
  intro s t hinv h
  have hs : (tickPpu s).Sound := ((inv_iff s).mp hinv).1.tickPpu
  obtain ⟨-, ⟨-, rfl⟩ | ⟨-, -, rfl⟩ | ⟨-, -, u, hu, rfl⟩⟩ := step_cases h
  · exact hinv
  · exact endTick_inv hs
  · exact afterCpu_inv (cpuClock_sound hu hs)

/-! ## What no step changes -/

section
variable {s : State}

theorem deliverNmi_keepsProgram (s : State) : KeepsProgram s (deliverNmi s) := by
  unfold deliverNmi
  split
  · exact { (nmiEntry_moves { s with ppu := { s.ppu with nmiRequest := false } }).toKeepsProgram with }
  · exact .refl s

theorem endTick_keepsProgram (s : State) : KeepsProgram s (endTick s) := { deliverNmi_keepsProgram s with }

theorem afterCpu_keepsProgram (s : State) : KeepsProgram s (afterCpu s) := by
  unfold afterCpu
  split
  · exact .refl s
  · exact endTick_keepsProgram s

theorem cpuClock_keepsProgram {t : State} (h : cpuClock s = .next t) : KeepsProgram s t := by
  rcases (cpuClock_moves h).2 with hmove | ⟨hf, u, f, hmove, rfl⟩
  · exact hmove.toKeepsProgram
  · exact { hmove.toKeepsProgram with fault := by simp [hf] }

theorem step_keepsProgram {t : State} (h : step s = .next t) : KeepsProgram s t := by
  have hs : KeepsProgram s (tickPpu s) := { KeepsProgram.refl s with }
  obtain ⟨-, ⟨-, rfl⟩ | ⟨-, -, rfl⟩ | ⟨-, -, u, hu, rfl⟩⟩ := step_cases h
  · exact .refl _
  · exact hs.trans (endTick_keepsProgram _)
  · exact hs.trans ((cpuClock_keepsProgram hu).trans (afterCpu_keepsProgram u))

end

/-- Settles O59: `KeepsProgram` of the whole step, clause by clause. -/
theorem stepKeepsProgramAndParameters : Obligations.StepKeepsProgramAndParameters := by
  intro s t h
  have k := step_keepsProgram h
  exact ⟨k.cart, k.chrRom, k.params, k.ready, k.live1, k.live2, k.fault⟩

/-! ## The host's operations -/

/-- The CPU's reset reads the vector in the cartridge, so it changes the CPU alone (70_reset_and_hazards.md R461). -/
theorem cpuReset_eq (s : State) : cpuReset s = { s with cpu := (cpuReset s).cpu } := by
  unfold cpuReset
  rw [memReadWord_high s (by decide) (by decide)]

/-- What Reset() answers, when it is not refused (70_reset_and_hazards.md R460). -/
theorem systemReset_eq {s t : State} (h : systemReset s = .next t) :
    t = { s with
      cpu := (cpuReset s).cpu
      ppu := ppuReset s.ppu
      port1 := Port.reset
      port2 := Port.reset
      tick := 0
      ready := true } := by
  unfold systemReset at h
  split at h
  · dsimp only at h
    rw [cpuReset_eq] at h
    exact (Host.Outcome.next.inj h).symm
  · split at h <;> cases h

section
variable {s t : State}

/-- Reset() keeps the memories and puts P and the PPU's pipeline in their ranges (70_reset_and_hazards.md R461, R462). -/
theorem systemReset_inv (hs : s.Inv) (h : systemReset s = .next t) : t.Inv := by
  obtain ⟨hmem, -, hppu, -⟩ := hs
  obtain ⟨-, -, hslots, -, -⟩ := (ppuOk_iff s).mp hppu
  obtain rfl := systemReset_eq h
  have hflags : flagOf 0x20 .unused = true ∧ flagOf 0x20 .brk = false := by decide
  refine ⟨hmem, (statusOk_iff _).mpr hflags, (ppuOk_iff _).mpr ?_, (nmiIdle_iff _).mpr (.inl rfl)⟩
  simp [ppuReset, Ppu.reset, hslots]

theorem loadCartridge_inv (hs : s.Inv) (image : List Byte) : (loadCartridge image s).2.Inv := by
  obtain ⟨hmem, hrest⟩ := hs
  obtain ⟨hr, hn, hp, ho, ⟨hcart, hinit⟩, hframe⟩ := (memoryOk_iff s).mp hmem
  have hchr : s.params.memInit.chrRam.wf = true ∧ Memory.below 8192 s.params.memInit.chrRam = true := by
    simp only [memInitOk, Bool.and_eq_true] at hinit
    exact ⟨hinit.1.2, hinit.2⟩
  exact ⟨(memoryOk_iff _).mpr ⟨hr, hn, hp, ho, ⟨Cart.load_memoryOk image hcart hchr.1 hchr.2, hinit⟩, hframe⟩, hrest⟩

theorem setController_inv {port : Nat} {mask : Byte} (hs : s.Inv) (h : setController port mask s = .next t) : t.Inv := by
  unfold setController at h
  split at h
  · cases h
    exact hs
  · split at h
    · cases h
      exact hs
    · cases h

end

/-- Settles O57: each of the host's operations keeps the machine sound. -/
theorem hostOperationsKeepInvariant : Obligations.HostOperationsKeepInvariant := fun _ _ hs =>
  ⟨loadCartridge_inv hs, systemReset_inv hs, fun _ _ => setController_inv hs, hs⟩

/-- Settles O34: a faulted step answers its own state, and Reset() does not write the fault. -/
theorem faultedMachineStays : Obligations.FaultedMachineStays := by
  intro s f hf
  refine ⟨fun t h => ?_, fun t h => ?_⟩
  · obtain ⟨-, ⟨-, ht⟩ | ⟨hnone, -⟩ | ⟨hnone, -⟩⟩ := step_cases h
    · exact ht
    · simp [hf] at hnone
    · simp [hf] at hnone
  · rw [systemReset_eq h]
    exact hf

end Sys2Proof.Machine
end

section
/-! ## The scroll operations, bit by bit and field by field (10_state.md R53, 62_ppu.md R379 to R382) -/

namespace Sys2Proof.Machine

/-- A setter takes the mask's bits from the new word and the others from the old one. -/
theorem getLsbD_replaceBits (r m v : Word) (i : Nat) :
    (replaceBits r m v).getLsbD i = if m.getLsbD i = true then v.getLsbD i else r.getLsbD i := by
  rcases Nat.lt_or_ge i 16 with hi | hi
  · rw [replaceBits, BitVec.getLsbD_or, BitVec.getLsbD_and, BitVec.getLsbD_and, BitVec.getLsbD_not]
    cases m.getLsbD i <;> simp [hi]
  · simp [BitVec.getLsbD_of_ge _ _ hi]

/-! ### The bits of the masks -/

/-- A mask is known by its bits below 16. -/
theorem getLsbD_of_below {m : Word} {P : Nat → Prop} [DecidablePred P] (h : ∀ j < 16, m.getLsbD j = decide (P j))
    (hP : ∀ j, P j → j < 16) (i : Nat) : m.getLsbD i = decide (P i) := by
  rcases Nat.lt_or_ge i 16 with hi | hi
  · exact h i hi
  · rw [BitVec.getLsbD_of_ge _ _ hi, eq_comm, decide_eq_false_iff_not]
    exact fun hp => absurd (hP i hp) (by omega)

theorem getLsbD_coarseXMask (i : Nat) : (0x001F#16).getLsbD i = decide (i < 5) :=
  getLsbD_of_below (P := fun j => j < 5) (by decide) (by omega) i

theorem getLsbD_coarseYMask (i : Nat) : (0x03E0#16).getLsbD i = decide (5 ≤ i ∧ i < 10) :=
  getLsbD_of_below (P := fun j => 5 ≤ j ∧ j < 10) (by decide) (by omega) i

theorem getLsbD_fineYMask (i : Nat) : (0x7000#16).getLsbD i = decide (12 ≤ i ∧ i < 15) :=
  getLsbD_of_below (P := fun j => 12 ≤ j ∧ j < 15) (by decide) (by omega) i

theorem getLsbD_nametableX (i : Nat) : (0x0400#16).getLsbD i = decide (i = 10) :=
  getLsbD_of_below (P := fun j => j = 10) (by decide) (by omega) i

theorem getLsbD_nametableY (i : Nat) : (0x0800#16).getLsbD i = decide (i = 11) :=
  getLsbD_of_below (P := fun j => j = 11) (by decide) (by omega) i

theorem getLsbD_transferXMask (i : Nat) : (0x041F#16).getLsbD i = decide (i < 5 ∨ i = 10) :=
  getLsbD_of_below (P := fun j => j < 5 ∨ j = 10) (by decide) (by omega) i

theorem getLsbD_transferYMask (i : Nat) :
    (0x7BE0#16).getLsbD i = decide ((5 ≤ i ∧ i < 10) ∨ i = 11 ∨ (12 ≤ i ∧ i < 15)) :=
  getLsbD_of_below (P := fun j => (5 ≤ j ∧ j < 10) ∨ j = 11 ∨ (12 ≤ j ∧ j < 15)) (by decide) (by omega) i

theorem getLsbD_threeBits (i : Nat) : (0x0007#16).getLsbD i = decide (i < 3) :=
  getLsbD_of_below (P := fun j => j < 3) (by decide) (by omega) i

/-! ### The fields, as numbers and by their bits -/

theorem coarseX_toNat (r : Word) : (coarseX r).toNat = r.toNat % 32 := by
  have := Nat.and_two_pow_sub_one_eq_mod r.toNat 5
  simpa [coarseX] using this

theorem coarseY_toNat (r : Word) : (coarseY r).toNat = r.toNat / 32 % 32 := by
  have := Nat.and_two_pow_sub_one_eq_mod (r.toNat / 32) 5
  simpa [coarseY, Nat.shiftRight_eq_div_pow] using this

theorem fineY_toNat (r : Word) : (fineY r).toNat = r.toNat / 4096 % 8 := by
  have := Nat.and_two_pow_sub_one_eq_mod (r.toNat / 4096) 3
  simpa [fineY, Nat.shiftRight_eq_div_pow] using this

theorem getLsbD_coarseX (r : Word) (i : Nat) : (coarseX r).getLsbD i = (r.getLsbD i && decide (i < 5)) := by
  simp [coarseX, getLsbD_coarseXMask]

theorem getLsbD_coarseY (r : Word) (i : Nat) : (coarseY r).getLsbD i = (r.getLsbD (5 + i) && decide (i < 5)) := by
  simp [coarseY, getLsbD_coarseXMask]

theorem getLsbD_fineY (r : Word) (i : Nat) : (fineY r).getLsbD i = (r.getLsbD (12 + i) && decide (i < 3)) := by
  simp [fineY, getLsbD_threeBits]

/-- Words that agree on bits 0 to 4 have one coarse X. -/
theorem coarseX_congr {r q : Word} (h : ∀ i < 5, r.getLsbD i = q.getLsbD i) : coarseX r = coarseX q := by
  refine BitVec.eq_of_getLsbD_eq fun i _ => ?_
  rw [getLsbD_coarseX, getLsbD_coarseX]
  by_cases hi : i < 5
  · rw [h i hi]
  · simp [hi]

/-- Words that agree on bits 5 to 9 have one coarse Y. -/
theorem coarseY_congr {r q : Word} (h : ∀ i, 5 ≤ i → i < 10 → r.getLsbD i = q.getLsbD i) : coarseY r = coarseY q := by
  refine BitVec.eq_of_getLsbD_eq fun i _ => ?_
  rw [getLsbD_coarseY, getLsbD_coarseY]
  by_cases hi : i < 5
  · rw [h (5 + i) (by omega) (by omega)]
  · simp [hi]

/-- Words that agree on bits 12 to 14 have one fine Y. -/
theorem fineY_congr {r q : Word} (h : ∀ i, 12 ≤ i → i < 15 → r.getLsbD i = q.getLsbD i) : fineY r = fineY q := by
  refine BitVec.eq_of_getLsbD_eq fun i _ => ?_
  rw [getLsbD_fineY, getLsbD_fineY]
  by_cases hi : i < 3
  · rw [h (12 + i) (by omega) (by omega)]
  · simp [hi]

/-! ### IncX (62_ppu.md R379) -/

theorem getLsbD_incX (v : Word) {i : Nat} (hi : 5 ≤ i) :
    (incX v).getLsbD i = (v.getLsbD i != (decide (i = 10) && decide (coarseX v = 31#16))) := by
  have h : ¬ i < 5 := by omega
  unfold incX
  split
  · simp [getLsbD_replaceBits, getLsbD_coarseXMask, getLsbD_nametableX, *]
  · simp [getLsbD_replaceBits, getLsbD_coarseXMask, *]

theorem coarseX_incX (v : Word) : (coarseX (incX v)).toNat = ((coarseX v).toNat + 1) % 32 := by
  unfold incX
  split
  · rename_i h
    have e : coarseX (replaceBits v 0x001F 0 ^^^ 0x0400) = coarseX 0 := coarseX_congr fun i hi => by
      simp [getLsbD_replaceBits, getLsbD_coarseXMask, getLsbD_nametableX, hi, show i ≠ 10 by omega]
    rw [e, h]
    rfl
  · have e : coarseX (replaceBits v 0x001F (coarseX v + 1)) = coarseX (coarseX v + 1) := coarseX_congr fun i hi => by
      simp [getLsbD_replaceBits, getLsbD_coarseXMask, hi]
    rw [e, coarseX_toNat, BitVec.toNat_add]
    simp

/-! ### IncY (62_ppu.md R380) -/

/-- Setting fine Y gives it the low three bits of the number set. -/
theorem fineY_set (v n : Word) : (fineY (replaceBits v 0x7000#16 (n <<< 12))).toNat = n.toNat % 8 := by
  have e : fineY (replaceBits v 0x7000#16 (n <<< 12)) = fineY (n <<< 12) := fineY_congr fun i h h' => by
    simp [getLsbD_replaceBits, getLsbD_fineYMask, h, h']
  rw [e, fineY_toNat, BitVec.toNat_shiftLeft, Nat.shiftLeft_eq]
  omega

/-- Setting coarse Y gives it the low five bits of the number set. -/
theorem coarseY_set (v n : Word) : (coarseY (replaceBits v 0x03E0#16 (n <<< 5))).toNat = n.toNat % 32 := by
  have e : coarseY (replaceBits v 0x03E0#16 (n <<< 5)) = coarseY (n <<< 5) := coarseY_congr fun i h h' => by
    simp [getLsbD_replaceBits, getLsbD_coarseYMask, h, h']
  rw [e, coarseY_toNat, BitVec.toNat_shiftLeft, Nat.shiftLeft_eq]
  omega

/-- Setting fine Y leaves coarse Y. -/
theorem coarseY_setFineY (v n : Word) : coarseY (replaceBits v 0x7000#16 n) = coarseY v := coarseY_congr fun i _ h' => by
  simp [getLsbD_replaceBits, getLsbD_fineYMask, show ¬ 12 ≤ i by omega]

/-- Setting coarse Y leaves fine Y. -/
theorem fineY_setCoarseY (v n : Word) : fineY (replaceBits v 0x03E0#16 n) = fineY v := fineY_congr fun i h _ => by
  simp [getLsbD_replaceBits, getLsbD_coarseYMask, show ¬ i < 10 by omega]

/-- Flipping nametable Y leaves coarse Y. -/
theorem coarseY_flip (v : Word) : coarseY (v ^^^ 0x0800#16) = coarseY v := coarseY_congr fun i _ h' => by
  simp [getLsbD_nametableY, show i ≠ 11 by omega]

/-- Flipping nametable Y leaves fine Y. -/
theorem fineY_flip (v : Word) : fineY (v ^^^ 0x0800#16) = fineY v := fineY_congr fun i h _ => by
  simp [getLsbD_nametableY, show i ≠ 11 by omega]

/-- The coarse Y that IncY sets when fine Y wraps. -/
def nextCoarseY (c : Word) : Word := if c = 29#16 ∨ c = 31#16 then 0#16 else c + 1#16

theorem nextCoarseY_toNat (v : Word) :
    (nextCoarseY (coarseY v)).toNat =
      if (coarseY v).toNat = 29 ∨ (coarseY v).toNat = 31 then 0 else (coarseY v).toNat + 1 := by
  have hlt : (coarseY v).toNat < 32 := by rw [coarseY_toNat]; omega
  have h29 : coarseY v = 29#16 ↔ (coarseY v).toNat = 29 := BitVec.toNat_eq
  have h31 : coarseY v = 31#16 ↔ (coarseY v).toNat = 31 := BitVec.toNat_eq
  simp only [nextCoarseY, h29, h31]
  split
  · rfl
  · rw [BitVec.toNat_add, BitVec.toNat_ofNat]
    omega

theorem incY_of_lt {v : Word} (h : fineY v < 7#16) : incY v = replaceBits v 0x7000#16 ((fineY v + 1#16) <<< 12) := if_pos h

/-- When fine Y wraps, coarse Y steps, and from 29 nametable Y flips. -/
theorem incY_of_not_lt {v : Word} (h : ¬ fineY v < 7#16) :
    incY v = (replaceBits (replaceBits v 0x7000#16 0#16) 0x03E0#16 (nextCoarseY (coarseY v) <<< 5)) ^^^
      (if coarseY v = 29#16 then 0x0800#16 else 0#16) := by
  unfold incY nextCoarseY
  rw [if_neg h]
  by_cases h29 : coarseY v = 29#16
  · simp [coarseY_setFineY, h29]
  · by_cases h31 : coarseY v = 31#16 <;> simp [coarseY_setFineY, h29, h31]

theorem getLsbD_incY (v : Word) {i : Nat} (hi : i < 5 ∨ i = 10 ∨ i = 11 ∨ i = 15) :
    (incY v).getLsbD i =
      (v.getLsbD i != (decide (i = 11) && !decide (fineY v < 7#16) && decide (coarseY v = 29#16))) := by
  have hf : ¬ (12 ≤ i ∧ i < 15) := by omega
  have hc : ¬ (5 ≤ i ∧ i < 10) := by omega
  by_cases h : fineY v < 7#16
  · rw [incY_of_lt h]
    simp [getLsbD_replaceBits, getLsbD_fineYMask, hf, h]
  · rw [incY_of_not_lt h]
    by_cases h29 : coarseY v = 29#16 <;>
      simp [getLsbD_replaceBits, getLsbD_fineYMask, getLsbD_coarseYMask, getLsbD_nametableY, hf, hc, h, h29]

theorem fineY_incY (v : Word) : (fineY (incY v)).toNat = ((fineY v).toNat + 1) % 8 := by
  have hlt : (fineY v).toNat < 8 := by rw [fineY_toNat]; omega
  by_cases h : fineY v < 7#16
  · rw [incY_of_lt h, fineY_set, BitVec.toNat_add]
    simp
  · have h7 : ¬ (fineY v).toNat < 7 := h
    have e : fineY (incY v) = fineY (replaceBits v 0x7000#16 (0#16 <<< 12)) := by
      rw [incY_of_not_lt h]
      split <;> simp [fineY_flip, fineY_setCoarseY]
    rw [e, fineY_set, show (fineY v).toNat = 7 by omega]
    rfl

theorem coarseY_incY (v : Word) :
    coarseY (incY v) = if fineY v < 7#16 then coarseY v else nextCoarseY (coarseY v) := by
  split
  · rename_i h
    rw [incY_of_lt h, coarseY_setFineY]
  · rename_i h
    have e : coarseY (incY v) =
        coarseY (replaceBits (replaceBits v 0x7000#16 0#16) 0x03E0#16 (nextCoarseY (coarseY v) <<< 5)) := by
      rw [incY_of_not_lt h]
      split <;> simp [coarseY_flip]
    refine BitVec.eq_of_toNat_eq ?_
    rw [e, coarseY_set, nextCoarseY_toNat]
    have hlt : (coarseY v).toNat < 32 := by rw [coarseY_toNat]; omega
    split <;> omega

/-! ### The transfers (62_ppu.md R381, R382) -/

theorem getLsbD_transferX (v t : Word) (i : Nat) :
    (transferX v t).getLsbD i = if i < 5 ∨ i = 10 then t.getLsbD i else v.getLsbD i := by
  simp [transferX, getLsbD_replaceBits, getLsbD_transferXMask]

theorem getLsbD_transferY (v t : Word) (i : Nat) :
    (transferY v t).getLsbD i =
      if (5 ≤ i ∧ i < 10) ∨ i = 11 ∨ (12 ≤ i ∧ i < 15) then t.getLsbD i else v.getLsbD i := by
  simp [transferY, getLsbD_replaceBits, getLsbD_transferYMask]

/-- Settles O43: each operation by its bits outside the field it steps, and the field by its number. -/
theorem scrollOperationsByField : Obligations.ScrollOperationsByField := by
  intro v t
  have hx : coarseX v = 31#16 ↔ v.toNat % 32 = 31 := coarseX_toNat v ▸ BitVec.toNat_eq
  have hy : coarseY v = 29#16 ↔ v.toNat / 32 % 32 = 29 := coarseY_toNat v ▸ BitVec.toNat_eq
  have hf : fineY v < 7#16 ↔ v.toNat / 4096 % 8 < 7 := fineY_toNat v ▸ BitVec.lt_def
  refine ⟨⟨?_, fun i hi _ => ?_⟩, ⟨?_, ?_, fun i _ hi => ?_⟩, fun i _ => getLsbD_transferX v t i,
    fun i _ => getLsbD_transferY v t i⟩
  · rw [← coarseX_toNat, coarseX_incX, coarseX_toNat]
  · rw [getLsbD_incX v hi]
    simp only [hx]
  · rw [← fineY_toNat, fineY_incY, fineY_toNat]
  · rw [← coarseY_toNat, coarseY_incY, ← coarseY_toNat v]
    simp only [hf, apply_ite BitVec.toNat, nextCoarseY_toNat]
  · rw [getLsbD_incY v hi]
    have hf7 : (!decide (v.toNat / 4096 % 8 < 7)) = decide (v.toNat / 4096 % 8 = 7) := by
      rw [← decide_not, decide_eq_decide]
      omega
    simp only [hf, hy, hf7]

end Sys2Proof.Machine
end

section
/-! ## The CPU's bus and the PPU's address space, range by range (20_memory.md, 63_cartridge.md R436 to R440) -/

namespace Sys2Proof.Machine

/-! ### Masks and the mapper -/

/-- A mask of the low `k` bits takes a remainder. -/
theorem toNat_and_lowMask (a : Word) {mask : Word} {k : Nat} (h : mask.toNat = 2 ^ k - 1) :
    (a &&& mask).toNat = a.toNat % 2 ^ k := by
  rw [BitVec.toNat_and, h, Nat.and_two_pow_sub_one_eq_mod]

/-- Mapper 000 is the only one there is (63_cartridge.md R435). -/
theorem Cart.mapper_eq_some {c : Cart} (h : c.mapper.isSome = true) : c.mapper = some .mapper000 := by
  obtain ⟨m, hm⟩ := Option.isSome_iff_exists.mp h
  cases m
  exact hm

theorem Cart.cpuMapRead_prg {c : Cart} (h : c.mapper.isSome = true) {a : Word} (ha : 0x8000 ≤ a.toNat) :
    c.cpuMapRead a = some (c.prg.read (c.prgOffset a)) := by
  simp [Cart.cpuMapRead, Cart.mapper_eq_some h, ha]

/-- With two banks the PRG offset is the address modulo 32768 (63_cartridge.md R437). -/
theorem Cart.prgOffset_two {c : Cart} (h : c.prgBanks = 2#8) (a : Word) : c.prgOffset a = a.toNat % 32768 := by
  rw [Cart.prgOffset, if_pos h]
  exact toNat_and_lowMask a (k := 15) rfl

/-- Otherwise it is the address modulo 16384 (63_cartridge.md R437). -/
theorem Cart.prgOffset_of_ne_two {c : Cart} (h : c.prgBanks ≠ 2#8) (a : Word) : c.prgOffset a = a.toNat % 16384 := by
  rw [Cart.prgOffset, if_neg h]
  exact toNat_and_lowMask a (k := 14) rfl

/-! ### CPU accesses by range -/

theorem memRead_prg {s : State} (hm : s.cart.mapper.isSome = true) {a : Word} (ha : 0x8000 ≤ a.toNat) :
    memRead a s = (s.cart.prg.read (s.cart.prgOffset a), s) := by
  simp [memRead, Cart.cpuMapRead_prg hm ha]

section
variable {a : Word} (s : State)

/-- A read of 0x2000-0x3FFF is a read of a PPU register (20_memory.md R108). -/
theorem memRead_ppu (h : 0x2000 ≤ a.toNat) (h' : a.toNat ≤ 0x3FFF) :
    memRead a s =
      ((ppuRegRead s.cart s.ppu (ppuPort a)).1, { s with ppu := (ppuRegRead s.cart s.ppu (ppuPort a)).2 }) := by
  simp [memRead, Cart.cpuMapRead_low s.cart (show a.toNat < 0x8000 by omega), h', show ¬ a.toNat ≤ 0x1FFF by omega]

/-- A write of 0x2000-0x3FFF is a write of a PPU register (20_memory.md R108). -/
theorem memWrite_ppu (v : Byte) (h : 0x2000 ≤ a.toNat) (h' : a.toNat ≤ 0x3FFF) :
    memWrite a v s =
      { s with
        cart := (ppuRegWrite s.cart s.ppu (ppuPort a) v).1
        ppu := (ppuRegWrite s.cart s.ppu (ppuPort a) v).2 } := by
  simp [memWrite, Cart.cpuMapWrite_low s.cart v (show a.toNat < 0x8000 by omega), h', show ¬ a.toNat ≤ 0x1FFF by omega]

/-- From 0x4000 to the cartridge only the controller ports answer a read (20_memory.md R113). -/
theorem memRead_openBus (h : 0x4000 ≤ a.toNat) (h' : a.toNat ≤ 0x7FFF) (h1 : a ≠ 0x4016#16) (h2 : a ≠ 0x4017#16) :
    memRead a s = (0x00, s) := by
  simp [memRead, Cart.cpuMapRead_low s.cart (show a.toNat < 0x8000 by omega), show ¬ a.toNat ≤ 0x1FFF by omega,
    show ¬ a.toNat ≤ 0x3FFF by omega, h1, h2]

/-- From 0x4000 on only the DMA and the controller ports take a write (20_memory.md R113, R115, 63_cartridge.md R438). -/
theorem memWrite_discarded (v : Byte) (h : 0x4000 ≤ a.toNat) (h1 : a ≠ 0x4014#16) (h2 : a ≠ 0x4016#16) (h3 : a ≠ 0x4017#16) :
    memWrite a v s = s := by
  rcases Nat.lt_or_ge a.toNat 0x8000 with hlow | hhigh
  · simp [memWrite, Cart.cpuMapWrite_low s.cart v hlow, show ¬ a.toNat ≤ 0x1FFF by omega,
      show ¬ a.toNat ≤ 0x3FFF by omega, h1, h2, h3]
  · exact memWrite_high v s hhigh

theorem memWrite_dma (page : Byte) : memWrite 0x4014 page s = oamDma page s := by
  simp [memWrite, Cart.cpuMapWrite_low]

theorem memRead_port1 :
    memRead 0x4016 s = ((portRead s.params s.port1).1, { s with port1 := (portRead s.params s.port1).2 }) := by
  simp [memRead, Cart.cpuMapRead_low]

theorem memRead_port2 :
    memRead 0x4017 s = ((portRead s.params s.port2).1, { s with port2 := (portRead s.params s.port2).2 }) := by
  simp [memRead, Cart.cpuMapRead_low]

theorem memWrite_port1 (v : Byte) : memWrite 0x4016 v s = { s with port1 := portWrite v s.port1 } := by
  simp [memWrite, Cart.cpuMapWrite_low]

theorem memWrite_port2 (v : Byte) : memWrite 0x4017 v s = { s with port2 := portWrite v s.port2 } := by
  simp [memWrite, Cart.cpuMapWrite_low]

end

theorem ppuPort_eq (a : Word) : ppuPort a = a.toNat % 8 := toNat_and_lowMask a (k := 3) rfl

/-- The address in 0x2000-0x2007 of the register at `a` (20_memory.md R108). -/
theorem ppuMirror_toNat (a : Word) : (BitVec.ofNat 16 (0x2000 + a.toNat % 8) : Word).toNat = 0x2000 + a.toNat % 8 := by
  rw [BitVec.toNat_ofNat]
  omega

theorem ppuPort_mirror (a : Word) : ppuPort (BitVec.ofNat 16 (0x2000 + a.toNat % 8)) = ppuPort a := by
  rw [ppuPort_eq, ppuPort_eq, ppuMirror_toNat]
  omega

theorem memRead_ppu_mirror {a : Word} (s : State) (h : 0x2000 ≤ a.toNat) (h' : a.toNat ≤ 0x3FFF) :
    memRead a s = memRead (BitVec.ofNat 16 (0x2000 + a.toNat % 8)) s := by
  have hm := ppuMirror_toNat a
  rw [memRead_ppu s h h', memRead_ppu s (by omega) (by omega), ppuPort_mirror]

theorem memWrite_ppu_mirror {a : Word} (v : Byte) (s : State) (h : 0x2000 ≤ a.toNat) (h' : a.toNat ≤ 0x3FFF) :
    memWrite a v s = memWrite (BitVec.ofNat 16 (0x2000 + a.toNat % 8)) v s := by
  have hm := ppuMirror_toNat a
  rw [memWrite_ppu s v h h', memWrite_ppu s v (by omega) (by omega), ppuPort_mirror]

/-- Settles O35: the read of each range. -/
theorem cpuReadMap : Obligations.CpuReadMap := by
  intro a s hm
  refine ⟨fun h => ?ram, memRead_ppu_mirror s, fun h h' h1 h2 => ?openBus, fun h hb => ?oneBank, fun h hb => ?twoBanks⟩
  case ram => rw [memRead_ram s h, ramIndex_toNat]
  case openBus => exact memRead_openBus s h h' (ne_of_apply_ne _ h1) (ne_of_apply_ne _ h2)
  case oneBank => rw [memRead_prg hm h, Cart.prgOffset_of_ne_two (by rw [hb]; decide)]
  case twoBanks => rw [memRead_prg hm h, Cart.prgOffset_two hb]

/-- Settles O36: the write of each range. -/
theorem cpuWriteMap : Obligations.CpuWriteMap := by
  intro a v s _
  refine ⟨fun h => ?ram, memWrite_ppu_mirror v s, fun h h1 h2 h3 => ?discarded⟩
  case ram => rw [memWrite_ram v s h, ramIndex_toNat]
  case discarded => exact memWrite_discarded s v h (ne_of_apply_ne _ h1) (ne_of_apply_ne _ h2) (ne_of_apply_ne _ h3)

/-- Settles O37: `Memory.read_write` at the cells of the two addresses. -/
theorem ramReadsWhatWasWritten : Obligations.RamReadsWhatWasWritten := by
  intro a b v s hok ha hb
  obtain ⟨⟨hwf, -⟩, -⟩ := (memoryOk_iff s).mp hok
  refine ⟨?_, memWrite_memoryOk a v hok⟩
  rw [memWrite_ram v s ha, memRead_ram _ hb, memRead_ram _ hb]
  dsimp only
  rw [Memory.read_write hwf, ramIndex_toNat, ramIndex_toNat]
  simp only [eq_comm]

/-! ### OAM DMA -/

theorem stallOf_dma (s : State) : stallOf 0x4014 s = dmaCycles s.params.dmaParity s.tick := by
  rw [stallOf, if_pos (by rfl)]
  cases s.params.dmaParity <;> dsimp only [dmaCycles] <;> split <;> omega

/-- Settles O38: OAM after the copy of all 256 cells, each read by `dmaCopy_read`. -/
theorem oamDmaCopiesAPageOfRam : Obligations.OamDmaCopiesAPageOfRam := by
  intro page s hok
  obtain ⟨-, -, -, ⟨hoam, -⟩, -⟩ := (memoryOk_iff s).mp hok
  refine ⟨dmaCopy s.ram page s.ppu.oam 256, fun i hi => ?_, ?_⟩
  · rw [(dmaCopy_read s.ram page hoam i 256).2, if_pos hi]
    rfl
  · rw [memWrite_dma, stallOf_dma, oamDma]

/-! ### The controller ports (20_memory.md R111, R112) -/

theorem portRead_strobe (params : Params) {c : Port} (h : c.strobe = true) :
    portRead params c = ((c.live &&& 1) ||| params.ctrlOpenBus, { c with shift := c.live }) := by
  simp [portRead, h]

/-- Shifting a byte right with a bit coming in at the top. -/
theorem shiftIn_eq (b : Byte) (fill : Bool) :
    (b >>> 1) ||| (if fill then 0x80 else 0x00) = BitVec.ofNat 8 (b.toNat / 2 + 128 * fill.toNat) := by
  have hor : b.toNat / 2 ||| 128 = 128 + b.toNat / 2 := by
    rw [Nat.lor_comm]
    exact (Nat.two_pow_add_eq_or_of_lt (i := 7) (by omega) 1).symm
  refine BitVec.eq_of_toNat_eq ?_
  rw [BitVec.toNat_or, BitVec.toNat_ushiftRight, Nat.shiftRight_one, BitVec.toNat_ofNat]
  cases fill with
  | false =>
    change b.toNat / 2 ||| 0 = (b.toNat / 2 + 128 * 0) % 256
    rw [Nat.or_zero]
    omega
  | true =>
    change b.toNat / 2 ||| 128 = (b.toNat / 2 + 128 * 1) % 256
    omega

theorem portRead_noStrobe (params : Params) {c : Port} (h : c.strobe = false) :
    portRead params c = ((c.shift &&& 1) ||| params.ctrlOpenBus,
      { c with shift := BitVec.ofNat 8 (c.shift.toNat / 2 + 128 * params.ctrlFill.toNat) }) := by
  simp only [portRead, h, Bool.false_eq_true, ↓reduceIte, shiftIn_eq]

/-- Settles O39: what each port's address does, and a port's read in both states of its strobe. -/
theorem controllerPorts : Obligations.ControllerPorts := by
  intro v s
  refine ⟨memWrite_port1 s v, memWrite_port2 s v, fun h => ?_, fun h => ?_, fun h => ?_, fun h => ?_⟩
  · rw [memRead_port1, portRead_strobe s.params h]
  · rw [memRead_port1, portRead_noStrobe s.params h]
  · rw [memRead_port2, portRead_strobe s.params h]
  · rw [memRead_port2, portRead_noStrobe s.params h]

/-! ### The PPU's address space (20_memory.md R120 to R126) -/

theorem ppuAddr_toNat (a : Word) : (ppuAddr a).toNat = a.toNat % 16384 := toNat_and_lowMask a (k := 14) rfl

/-- `NtBank` is the bank table at the logical region (20_memory.md R124). -/
theorem ntBank_eq (m : Mirroring) (a : Word) : ntBank m a = bankOf m (a.toNat / 1024 % 4) := by
  have hq : ((a &&& 0x0FFF) >>> 10).toNat = a.toNat / 1024 % 4 := by
    rw [BitVec.toNat_ushiftRight, Nat.shiftRight_eq_div_pow, toNat_and_lowMask a (k := 12) rfl]
    omega
  have hlt : a.toNat / 1024 % 4 < 4 := Nat.mod_lt _ (by decide)
  unfold ntBank
  rw [hq]
  generalize a.toNat / 1024 % 4 = q at hlt
  cases m <;> interval_cases q <;> rfl

theorem ntIndex_eq (m : Mirroring) (a : Word) : ntIndex m a = nametableCell m a.toNat := by
  have hoffset : (a &&& 0x03FF).toNat = a.toNat % 1024 := toNat_and_lowMask a (k := 10) rfl
  rw [ntIndex, nametableCell, ntBank_eq, hoffset]

theorem palIndex_eq (a : Word) : palIndex a = paletteCell a.toNat := by
  have hcell : (a &&& 0x001F).toNat = a.toNat % 32 := toNat_and_lowMask a (k := 5) rfl
  rw [palIndex, paletteCell, hcell]

/-- Mapper 000 claims the reads of 0x0000-0x1FFF (63_cartridge.md R439). -/
theorem Cart.ppuMapRead_chr {c : Cart} (hm : c.mapper.isSome = true) {a : Word} (h : a.toNat ≤ 0x1FFF) :
    c.ppuMapRead a = some (c.chr.read a.toNat) := by
  simp [Cart.ppuMapRead, Cart.mapper_eq_some hm, h]

/-- Above 0x1FFF every mapper declines a PPU read. -/
theorem Cart.ppuMapRead_high (c : Cart) {a : Word} (h : 0x1FFF < a.toNat) : c.ppuMapRead a = none := by
  unfold Cart.ppuMapRead
  split <;> simp [Nat.not_le.mpr h]

/-- Mapper 000 claims the writes of 0x0000-0x1FFF when CHR is RAM (63_cartridge.md R440). -/
theorem Cart.ppuMapWrite_chr {c : Cart} (hm : c.mapper.isSome = true) {a : Word} (v : Byte) (h : a.toNat ≤ 0x1FFF) :
    c.ppuMapWrite a v = if c.chrBanks = 0#8 then some { c with chr := c.chr.write a.toNat v } else none := by
  simp [Cart.ppuMapWrite, Cart.mapper_eq_some hm, h]

/-- Above 0x1FFF every mapper declines a PPU write. -/
theorem Cart.ppuMapWrite_high (c : Cart) {a : Word} (v : Byte) (h : 0x1FFF < a.toNat) : c.ppuMapWrite a v = none := by
  unfold Cart.ppuMapWrite
  split <;> simp [Nat.not_le.mpr h]

section
variable {c : Cart} (p : Ppu) {a : Word}

theorem ppuRead_chr (hm : c.mapper.isSome = true) (h : a.toNat % 16384 ≤ 0x1FFF) :
    ppuRead c p a = c.chr.read (a.toNat % 16384) := by
  rw [← ppuAddr_toNat] at h ⊢
  simp [ppuRead, Cart.ppuMapRead_chr hm h]

theorem ppuWrite_chr (hm : c.mapper.isSome = true) (v : Byte) (h : a.toNat % 16384 ≤ 0x1FFF) :
    ppuWrite c p a v = (if c.chrBanks = 0#8 then { c with chr := c.chr.write (a.toNat % 16384) v } else c, p) := by
  rw [← ppuAddr_toNat] at h ⊢
  by_cases hb : c.chrBanks = 0#8 <;> simp [ppuWrite, Cart.ppuMapWrite_chr hm v h, hb, h]

theorem ppuRead_nametable (h : 0x2000 ≤ a.toNat % 16384) (h' : a.toNat % 16384 ≤ 0x3EFF) :
    ppuRead c p a = p.nametable.read (nametableCell c.mirroring (a.toNat % 16384)) := by
  rw [← ppuAddr_toNat] at h h' ⊢
  simp [ppuRead, Cart.ppuMapRead_high c h, h', Nat.not_le.mpr h, ntIndex_eq]

theorem ppuWrite_nametable (v : Byte) (h : 0x2000 ≤ a.toNat % 16384) (h' : a.toNat % 16384 ≤ 0x3EFF) :
    ppuWrite c p a v =
      (c, { p with nametable := p.nametable.write (nametableCell c.mirroring (a.toNat % 16384)) v }) := by
  rw [← ppuAddr_toNat] at h h' ⊢
  simp [ppuWrite, Cart.ppuMapWrite_high c v h, h', Nat.not_le.mpr h, ntIndex_eq]

theorem ppuRead_palette (h : 0x3F00 ≤ a.toNat % 16384) :
    ppuRead c p a = p.palette.read (paletteCell (a.toNat % 16384)) := by
  rw [← ppuAddr_toNat] at h ⊢
  have hchr : 0x1FFF < (ppuAddr a).toNat := Nat.lt_of_lt_of_le (by decide) h
  simp [ppuRead, Cart.ppuMapRead_high c hchr, Nat.not_le.mpr h, Nat.not_le.mpr hchr, palIndex_eq]

theorem ppuWrite_palette (v : Byte) (h : 0x3F00 ≤ a.toNat % 16384) :
    ppuWrite c p a v = (c, { p with palette := p.palette.write (paletteCell (a.toNat % 16384)) v }) := by
  rw [← ppuAddr_toNat] at h ⊢
  have hchr : 0x1FFF < (ppuAddr a).toNat := Nat.lt_of_lt_of_le (by decide) h
  simp [ppuWrite, Cart.ppuMapWrite_high c v hchr, Nat.not_le.mpr h, Nat.not_le.mpr hchr, palIndex_eq]

end

/-- Settles O42: the read and the write of each range. -/
theorem ppuAddressSpace : Obligations.PpuAddressSpace := fun _ p _ v hm =>
  ⟨fun h => ⟨ppuRead_chr p hm h, ppuWrite_chr p hm v h⟩,
    fun h h' => ⟨ppuRead_nametable p h h', ppuWrite_nametable p v h h'⟩,
    fun h => ⟨ppuRead_palette p h, ppuWrite_palette p v h⟩⟩

end Sys2Proof.Machine
end

section
/-! ## The decoder and the encoder (30_encoding.md) -/

namespace Sys2Proof

/-- A word is its two bytes put together (00_scope.md R9, 30_encoding.md R151). -/
theorem wordOfBytes_lowByte_highByte (w : Word) : wordOfBytes (lowByte w) (highByte w) = w := by
  refine BitVec.eq_of_getLsbD_eq fun i hi => ?_
  by_cases h : i < 8
  · simp [wordOfBytes, lowByte, highByte, h, hi]
  · simp [wordOfBytes, lowByte, highByte, h, hi, show i - 8 < 8 by omega, show 8 + (i - 8) = i by omega]

theorem lowByte_wordOfBytes (lo hi : Byte) : lowByte (wordOfBytes lo hi) = lo := by
  refine BitVec.eq_of_getLsbD_eq fun i h => ?_
  simp [wordOfBytes, lowByte, h]

theorem highByte_wordOfBytes (lo hi : Byte) : highByte (wordOfBytes lo hi) = hi := by
  refine BitVec.eq_of_getLsbD_eq fun i h => ?_
  simp [wordOfBytes, highByte, h, show 8 + i < 16 by omega]

/-! ### The bytes of a form -/

/-- `f.Writes i tail`: the form `f` gives the instruction `i`, whose bytes after the opcode are `tail`
(30_encoding.md R150, R151); a padded form is BRK's, its padding byte written 0x00 (log entry 12). -/
inductive Form.Writes : Form → Instr → List Byte → Prop
  | implied (i : Instr) : Writes (.implied i) i []
  | brk : Writes (.padded .brk) .brk [0x00]
  | byte (f : Byte → Instr) (b : Byte) : Writes (.byte f) (f b) [b]
  | word (f : Word → Instr) (w : Word) : Writes (.word f) (f w) [lowByte w, highByte w]

/-- A form reads back the bytes it writes and leaves the rest. -/
theorem Form.Writes.complete {f : Form} {i : Instr} {tail : List Byte} (h : f.Writes i tail) (rest : List Byte) :
    f.complete (tail ++ rest) = some (i, rest) := by
  cases h with
  | implied i => rfl
  | brk => rfl
  | byte g b => rfl
  | word g w => exact congrArg (fun v => some (g v, rest)) (wordOfBytes_lowByte_highByte w)

/-- What a form can read: any list when it is padded, else the bytes it writes. -/
theorem Form.complete_eq_some {f : Form} {bytes rest : List Byte} {i : Instr} (h : f.complete bytes = some (i, rest)) :
    (f = .padded i ∧ rest = bytes.drop 1) ∨ ∃ tail, f.Writes i tail ∧ bytes = tail ++ rest := by
  cases f with
  | implied j =>
    cases h
    exact .inr ⟨_, .implied _, rfl⟩
  | padded j =>
    cases h
    exact .inl ⟨rfl, rfl⟩
  | byte g =>
    obtain _ | ⟨b, tail⟩ := bytes <;> cases h
    exact .inr ⟨_, .byte g b, rfl⟩
  | word g =>
    obtain _ | ⟨lo, _ | ⟨hi, tail⟩⟩ := bytes <;> cases h
    refine .inr ⟨_, .word g (wordOfBytes lo hi), ?_⟩
    rw [lowByte_wordOfBytes, highByte_wordOfBytes]
    rfl

/-- Two bytes are enough for every form. -/
theorem Form.complete_ne_none (f : Form) (b c : Byte) (rest : List Byte) : f.complete (b :: c :: rest) ≠ none := by
  cases f <;> exact Option.some_ne_none _

/-! ### The rows of the table -/

/-- Every instruction is one of those of the row its first byte begins, and its other bytes are the ones the row's form
writes (30_encoding.md R150, R152, R153). -/
theorem encode_row (i : Instr) :
    ∃ op row tail, encode i = op :: tail ∧ lookupOpcode op = some row ∧ row.form.Writes i tail := by
  cases i <;> exact ⟨_, _, _, rfl, rfl, by constructor⟩

/-- A row is true to the encoder: the instructions of its form are encoded with its opcode, and only BRK is padded. -/
def Row.MatchesEncoder (r : Row) : Prop :=
  match r.form with
  | .implied i => encode i = [r.opcode]
  | .padded i => i = .brk ∧ r.opcode = 0x00
  | .byte f => ∀ b, encode (f b) = [r.opcode, b]
  | .word f => ∀ w, encode (f w) = [r.opcode, lowByte w, highByte w]

/-- Each row's instructions have the bytes the encoder gives them (30_encoding.md R153). -/
theorem opcodeTable_matchesEncoder : ∀ r ∈ opcodeTable, r.MatchesEncoder := by
  rw [← List.forall_iff_forall_mem]
  simp only [opcodeTable, List.cons_append, List.nil_append, List.Forall, Row.MatchesEncoder, true_and, opcodes0,
    opcodes1, opcodes2, opcodes3, opcodes4, opcodes5, opcodes6, opcodes7, opcodes8, opcodes9, opcodesA, opcodesB,
    opcodesC, opcodesD, opcodesE, opcodesF]
  repeat' apply And.intro
  all_goals
    intros
    rfl

/-- The row found for an opcode is true to the encoder. -/
theorem lookupOpcode_matchesEncoder {op : Byte} {row : Row} (h : lookupOpcode op = some row) :
    row.opcode = op ∧ row.MatchesEncoder := by
  have hfound : (row.opcode == op) = true := by simpa using List.find?_some h
  exact ⟨eq_of_beq hfound, opcodeTable_matchesEncoder row (List.mem_of_find?_eq_some h)⟩

/-- What the row of an opcode writes after it is the encoding. -/
theorem encode_of_writes {op : Byte} {row : Row} {i : Instr} {tail : List Byte} (h : lookupOpcode op = some row)
    (hw : row.form.Writes i tail) : encode i = op :: tail := by
  obtain ⟨rfl, hm⟩ := lookupOpcode_matchesEncoder h
  obtain ⟨opcode, form, cycles⟩ := row
  cases hw with
  | implied i => exact hm
  | brk => rw [hm.2]; rfl
  | byte f b => exact hm b
  | word f w => exact hm w

/-- The padded row is BRK's (30_encoding.md R150, 47_flags_system.md R298). -/
theorem brk_of_padded {op : Byte} {row : Row} {i : Instr} (h : lookupOpcode op = some row)
    (hp : row.form = .padded i) : i = .brk ∧ op = 0x00 := by
  obtain ⟨rfl, hm⟩ := lookupOpcode_matchesEncoder h
  rwa [Row.MatchesEncoder, hp] at hm

/-! ### What decodes and what does not (30_encoding.md R152, R154) -/

theorem decode_eq_some {bytes rest : List Byte} {i : Instr} :
    decode bytes = some (i, rest) ↔
      ∃ op tail row, bytes = op :: tail ∧ lookupOpcode op = some row ∧ row.form.complete tail = some (i, rest) := by
  cases bytes with
  | nil => simp [decode]
  | cons op tail => simp [decode, Option.bind_eq_some_iff]

theorem decode_eq_none {op b c : Byte} {rest : List Byte} :
    decode (op :: b :: c :: rest) = none ↔ lookupOpcode op = none := by
  rw [decode]
  cases hl : lookupOpcode op with
  | none => simp
  | some row => simp [row.form.complete_ne_none b c rest]

/-- Settles O1: word by word, the row of the opcode found in the table. -/
theorem specWordsDecode : Obligations.SpecWordsDecode := by
  unfold Obligations.SpecWordsDecode
  repeat' apply And.intro
  all_goals rfl

/-- Settles O2: the row of the first byte reads back the operand bytes it writes. -/
theorem decodeOfEncode : Obligations.DecodeOfEncode := by
  intro i rest _
  obtain ⟨op, row, tail, he, hl, hw⟩ := encode_row i
  rw [he]
  exact decode_eq_some.mpr ⟨op, tail ++ rest, row, rfl, hl, hw.complete rest⟩

/-- Settles O3: a form that is not padded reads the bytes it writes, and the padded row is BRK's. -/
theorem encodeOfDecode : Obligations.EncodeOfDecode := by
  intro bytes rest i h
  obtain ⟨op, tail, row, rfl, hl, hc⟩ := decode_eq_some.mp h
  rcases Form.complete_eq_some hc with ⟨hp, hrest⟩ | ⟨written, hw, rfl⟩
  · obtain ⟨rfl, rfl⟩ := brk_of_padded hl hp
    exact ⟨fun hne => absurd rfl hne, fun _ => ⟨tail, rfl, hrest⟩⟩
  · have he := encode_of_writes hl hw
    refine ⟨fun _ => by rw [he]; rfl, ?_⟩
    rintro rfl
    cases he
    exact ⟨_, rfl, rfl⟩

end Sys2Proof

namespace Sys2Proof.Machine

/-! ### The undefined opcodes (30_encoding.md R153, R154) -/

/-- The 256 bytes, in order. -/
def allBytes : List Byte := (List.finRange 256).map BitVec.ofFin

theorem mem_allBytes (b : Byte) : b ∈ allBytes := List.mem_map.mpr ⟨b.toFin, List.mem_finRange _, rfl⟩

theorem allBytes_nodup : allBytes.Nodup := (List.nodup_finRange 256).map fun _ _ h => congrArg BitVec.toFin h

/-- The undefined opcodes are what is left of the bytes when the table's opcodes are taken out. -/
theorem allBytes_diff_opcodeTable : allBytes.diff (opcodeTable.map Row.opcode) = illegalOpcodes := by decide

/-- An opcode without a row is one R153's map marks `--`. -/
theorem lookupOpcode_eq_none (op : Byte) : lookupOpcode op = none ↔ op ∈ illegalOpcodes := by
  rw [← allBytes_diff_opcodeTable, allBytes_nodup.mem_sdiff_iff, lookupOpcode, List.find?_eq_none]
  simp [mem_allBytes]

/-- Settles O4: the undefined opcodes are distinct as bytes of `allBytes`, and they are the ones without a row. -/
theorem illegalOpcodesAreTheUndefinedOnes : Obligations.IllegalOpcodesAreTheUndefinedOnes :=
  ⟨rfl, allBytes_diff_opcodeTable ▸ allBytes_nodup.diff,
    fun op _ _ _ => decode_eq_none.trans (lookupOpcode_eq_none op)⟩

/-! ### The fetch of an undefined opcode (60_exceptions.md R310) -/

/-- The opcode fetch: U set, the byte at the PC read with its side effects, the PC past it. -/
theorem fetchOpcode_eq (s : State) :
    fetchByte (s.setP s.cpu.p) = ((memRead s.cpu.pc s).1,
      { (memRead s.cpu.pc s).2 with cpu := { s.cpu with pc := s.cpu.pc + 1, p := s.cpu.p ||| 0x20 } }) := by
  unfold fetchByte State.setP
  rw [memRead_withCpu]
  rfl

/-- An opcode without a row is recorded as the fault, the PC past it (30_encoding.md R154). -/
theorem executeInstruction_illegal {s : State} (h : lookupOpcode (memRead s.cpu.pc s).1 = none) :
    executeInstruction s = .next { (memRead s.cpu.pc s).2 with
      cpu := { s.cpu with pc := s.cpu.pc + 1, p := s.cpu.p ||| 0x20 }
      fault := some (.illegalOpcode (memRead s.cpu.pc s).1 s.cpu.pc) } := by
  rcases executeInstruction_cases (s := s) rfl with ⟨-, e⟩ | ⟨row, hrow, -⟩
  · rw [e, fetchOpcode_eq]
    rfl
  · rw [fetchOpcode_eq, h] at hrow
    cases hrow

/-- A CPU clock that is Idle and takes no IRQ is one instruction (40_cycle_and_addressing.md R170). -/
theorem cpuClock_of_execute {s t : State} (hf : s.fault = none) (hc : s.cpu.cycles = 0)
    (hi : ¬ (irqAsserted s.params.irqLine s.tick = true ∧ s.flag .interruptDisable = false))
    (h : executeInstruction s = .next t) : cpuClock s = .next (afterIdleWork t) := by
  simp [cpuClock, hf, hc, hi, h]

/-- A tick that clocks the CPU is the PPU's clock, the CPU's and the end of the tick (61_system_clock.md R341). -/
theorem step_of_cpuClock {s t : State} (hs : s.canClock = true) (hf : s.fault = none) (ht : s.tick % 3 = 0)
    (h : cpuClock (tickPpu s) = .next t) : step s = .next (afterCpu t) := by
  have ht' : (tickPpu s).tick % 3 = 0 := ht
  simp [step, clock, hs, hf, ht', h]

/-- Settles O28: the fault is recorded by the fetch, and neither clock goes on after a fault. -/
theorem illegalOpcodeStopsTheMachine : Obligations.IllegalOpcodeStopsTheMachine := by
  intro s hs hf ht u b hc hi hb
  exact step_of_cpuClock hs hf ht
    (cpuClock_of_execute (s := u) hf hc hi (executeInstruction_illegal ((lookupOpcode_eq_none _).mpr hb)))

end Sys2Proof.Machine
end

section
/-! ## The addressing modes (40_cycle_and_addressing.md R177 to R189) -/

namespace Sys2Proof.Machine

theorem lowByte_toNat (w : Word) : (lowByte w).toNat = w.toNat % 256 := BitVec.toNat_setWidth 8 w

theorem highByte_toNat (w : Word) : (highByte w).toNat = w.toNat / 256 := by
  rw [highByte, BitVec.toNat_setWidth, BitVec.toNat_ushiftRight, Nat.shiftRight_eq_div_pow]
  omega

theorem wordOfBytes_toNat (lo hi : Byte) : (wordOfBytes lo hi).toNat = lo.toNat + 256 * hi.toNat := by
  have hlo := lowByte_toNat (wordOfBytes lo hi)
  have hhi := highByte_toNat (wordOfBytes lo hi)
  rw [lowByte_wordOfBytes] at hlo
  rw [highByte_wordOfBytes] at hhi
  omega

theorem wordOfBytes_eq (lo hi : Byte) : wordOfBytes lo hi = wordOf lo hi := by
  refine BitVec.eq_of_toNat_eq ?_
  rw [wordOfBytes_toNat, wordOf, BitVec.toNat_ofNat]
  omega

/-- A page is crossed when the pages differ as numbers (R184, R185, R188). -/
theorem pageCrossed_eq (base ea : Word) : pageCrossed base ea = decide (ea.toNat / 256 ≠ base.toNat / 256) := by
  simp only [pageCrossed, bne, beq_eq_decide, ← highByte_toNat, ne_eq, BitVec.toNat_inj, decide_not]

/-- A byte of page 0 is the byte of its RAM cell (20_memory.md R107). -/
theorem pageZeroByte_eq (s : State) (n : Nat) : pageZeroByte s n = (s.ram.read (n % 256)).toNat := by
  have h : (BitVec.ofNat 16 (n % 256) : Word).toNat = n % 256 := by
    rw [BitVec.toNat_ofNat]
    omega
  rw [pageZeroByte, memRead_ram s (by omega), ramIndex_toNat, h, Nat.mod_eq_of_lt (by omega)]

/-- The word at the pointer `zp` of page 0 is the rules' pointer (R187, R188). -/
theorem zeroPageWord_toNat (zp : Byte) (s : State) {n : Nat} (h : zp.toNat = n % 256) :
    (zeroPageWord zp s).1.toNat = pageZeroPointer s n := by
  have h' : (zp + 1).toNat = (n + 1) % 256 := by
    simp [BitVec.toNat_add, h]
  rw [zeroPageWord_eq, wordOfBytes_toNat, pageZeroPointer, pageZeroByte_eq, pageZeroByte_eq, h, h']

theorem zeroPageWord_after (zp : Byte) (s : State) : (zeroPageWord zp s).2 = s := by
  rw [zeroPageWord_eq]

/-- A mode does nothing but note its effective address. -/
theorem MemOperand.mode_after (o : MemOperand) (s : State) : (o.mode s).after = s.noteEa (o.ea s) := by
  cases o with
  | izx zp => simp only [MemOperand.ea, MemOperand.mode, modeIzx_eq, addressedAt]
  | izy zp => simp only [MemOperand.ea, MemOperand.mode, modeIzy_eq, indexed]
  | _ => rfl

/-- A mode looks at nothing that the start of an instruction writes. -/
theorem MemOperand.mode_start (o : MemOperand) (op : Byte) (s : State) :
    o.mode (startInstr op s) = ⟨(startInstr op s).noteEa (o.ea s), o.ea s, o.crosses s⟩ := by
  cases o with
  | izx zp => exact modeIzx_start zp op s
  | izy zp => exact modeIzy_start zp op s
  | _ => rfl

/-- A mode without a final index gives its base, on its own page. -/
theorem base_of_notIndexed {ea : Word} {base : Nat} (h : ea.toNat = base) :
    ea.toNat = (base + 0) % 65536 ∧ false = decide (ea.toNat / 256 ≠ base / 256) := by
  subst h
  exact ⟨(Nat.mod_eq_of_lt ea.isLt).symm, by simp⟩

/-- A final index is added to the base modulo 65536, and the page flag compares the pages (R184, R185, R188). -/
theorem indexed_toNat (base : Word) (index : Byte) (s : State) :
    (indexed base index s).ea.toNat = (base.toNat + index.toNat) % 65536 ∧
    (indexed base index s).crossed = decide ((indexed base index s).ea.toNat / 256 ≠ base.toNat / 256) := by
  refine ⟨?_, pageCrossed_eq base _⟩
  rw [indexed, BitVec.toNat_add, zext16_toNat]

/-- Settles O5: mode by mode, the base as a number, and the final index of ABX, ABY and IZY. -/
theorem addressingModesGiveTheEffectiveAddress : Obligations.AddressingModesGiveTheEffectiveAddress := by
  intro o s
  refine and_assoc.mp ⟨?_, MemOperand.mode_after o s⟩
  cases o with
  | zp0 zp => exact base_of_notIndexed (zext16_toNat zp)
  | zpx zp => exact base_of_notIndexed ((zext16_toNat _).trans (BitVec.toNat_add ..))
  | zpy zp => exact base_of_notIndexed ((zext16_toNat _).trans (BitVec.toNat_add ..))
  | abs addr => exact base_of_notIndexed rfl
  | abx addr => exact indexed_toNat addr s.cpu.x s
  | aby addr => exact indexed_toNat addr s.cpu.y s
  | izx zp => exact base_of_notIndexed (zeroPageWord_toNat _ s (BitVec.toNat_add ..))
  | izy zp =>
    have hbase : (zeroPageWord zp s).1.toNat = MemOperand.base s (.izy zp) :=
      zeroPageWord_toNat zp s (Nat.mod_eq_of_lt zp.isLt).symm
    have h := indexed_toNat (zeroPageWord zp s).1 s.cpu.y s
    rw [hbase] at h
    rw [MemOperand.ea, MemOperand.crosses, MemOperand.mode, modeIzy, zeroPageWord_after]
    exact h

end Sys2Proof.Machine
end

section
/-! ## What an instruction stores (44_stack.md R240, 20_memory.md R107 to R109, 62_ppu.md R360)

`StoresOnly` bounds what a change of the memories can do by the addresses stored to. A bus write is the one operation that
stores; every other leaves `State.stored` as it was, so an instruction stores what the writes of its shape store. -/

namespace Sys2Proof.Machine

/-- The memories a store can change: RAM, the nametables, the palette, CHR and OAM. -/
structure Stored where
  ram       : Memory
  nametable : Memory
  palette   : Memory
  chr       : Memory
  oam       : Memory

/-- The memories of a machine that a store can change. -/
def State.stored (s : State) : Stored := ⟨s.ram, s.ppu.nametable, s.ppu.palette, s.cart.chr, s.ppu.oam⟩

section
variable (s : State)

@[simp] theorem setA_stored (v : Byte) : (s.setA v).stored = s.stored := rfl

@[simp] theorem setX_stored (v : Byte) : (s.setX v).stored = s.stored := rfl

@[simp] theorem setY_stored (v : Byte) : (s.setY v).stored = s.stored := rfl

@[simp] theorem setSp_stored (v : Byte) : (s.setSp v).stored = s.stored := rfl

@[simp] theorem setPc_stored (v : Word) : (s.setPc v).stored = s.stored := rfl

@[simp] theorem setScratch_stored (k : Scratch) : (s.setScratch k).stored = s.stored := rfl

@[simp] theorem startInstr_stored (op : Byte) : (startInstr op s).stored = s.stored := rfl

@[simp] theorem noteRel_stored (rel : Word) : (s.noteRel rel).stored = s.stored := rfl

@[simp] theorem setP_stored (p : Byte) : (s.setP p).stored = s.stored := rfl

@[simp] theorem setFlag_stored (f : Flag) (b : Bool) : (s.setFlag f b).stored = s.stored := rfl

@[simp] theorem setZN_stored (r : Byte) : (s.setZN r).stored = s.stored := rfl

@[simp] theorem compareFlags_stored (r m : Byte) : (s.compareFlags r m).stored = s.stored := rfl

end

/-- `b` is an address of PPU port `k` (20_memory.md R108). -/
def IsPort (k : Nat) (b : Word) : Prop := 0x2000 ≤ b.toNat ∧ b.toNat ≤ 0x3FFF ∧ b.toNat % 8 = k

/-- From `m` to `n`, nothing but what stores to the addresses `l` can change. -/
structure StoresOnly (l : List Word) (m n : Stored) : Prop where
  ram : ∀ i, (∀ b ∈ l, b.toNat ≤ 0x1FFF → ramIndex b ≠ i) → n.ram.read i = m.ram.read i
  video : (∀ b ∈ l, ¬ IsPort 7 b) → n.nametable = m.nametable ∧ n.palette = m.palette ∧ n.chr = m.chr
  oam : (∀ b ∈ l, ¬ IsPort 4 b ∧ b ≠ 0x4014#16) → n.oam = m.oam

theorem StoresOnly.refl (l : List Word) (m : Stored) : StoresOnly l m m :=
  ⟨fun _ _ => rfl, fun _ => ⟨rfl, rfl, rfl⟩, fun _ => rfl⟩

theorem StoresOnly.trans {l k : List Word} {m n o : Stored} (h : StoresOnly l m n) (h' : StoresOnly k n o) :
    StoresOnly (l ++ k) m o where
  ram i hi :=
    have ⟨hl, hk⟩ := List.forall_mem_append.mp hi
    (h'.ram i hk).trans (h.ram i hl)
  video hp :=
    have ⟨hl, hk⟩ := List.forall_mem_append.mp hp
    have ⟨hn, hpal, hc⟩ := h.video hl
    have ⟨hn', hpal', hc'⟩ := h'.video hk
    ⟨hn'.trans hn, hpal'.trans hpal, hc'.trans hc⟩
  oam hp :=
    have ⟨hl, hk⟩ := List.forall_mem_append.mp hp
    (h'.oam hk).trans (h.oam hl)

/-! ### The bus -/

/-- A byte that is not written reads as before, whatever the form of the memory. -/
theorem Memory.read_write_ne {a i : Nat} (v : Byte) (h : i ≠ a) : ∀ m : Memory, (m.write a v).read i = m.read i
  | [] => by
    unfold Memory.write
    split <;> simp [Memory.read, h.symm]
  | (k, b) :: m => by
    have ih := Memory.read_write_ne v h m
    unfold Memory.write
    split
    · split <;> simp [Memory.read, h.symm]
    · split
      · split <;> simp_all [Memory.read, eq_comm]
      · simp [Memory.read, ih]

/-- A bus read changes no memory (20_memory.md R114). -/
@[simp] theorem memRead_stored (a : Word) (s : State) : (memRead a s).2.stored = s.stored := by
  rcases memRead_cases a s with h | h | h | h <;> rw [h]
  · rw [ppuRegRead_eq]
    rfl
  · rfl
  · rfl

/-- A port write changes the PPU's address space through port 7 only (62_ppu.md R361 to R369). -/
theorem ppuRegWrite_video (c : Cart) (p : Ppu) {r : Nat} (v : Byte) (h : r ≠ 7) :
    (ppuRegWrite c p r v).2.nametable = p.nametable ∧ (ppuRegWrite c p r v).2.palette = p.palette ∧
      (ppuRegWrite c p r v).1 = c := by
  unfold ppuRegWrite
  split
  case h_5 => unfold writeScroll; split <;> exact ⟨rfl, rfl, rfl⟩
  case h_6 => unfold writeVramAddr; split <;> exact ⟨rfl, rfl, rfl⟩
  case h_7 => exact absurd rfl h
  all_goals exact ⟨rfl, rfl, rfl⟩

theorem ppuWrite_oam (c : Cart) (p : Ppu) (a : Word) (v : Byte) : (ppuWrite c p a v).2.oam = p.oam := by
  unfold ppuWrite
  dsimp only
  split
  · rfl
  · split
    · rfl
    · split <;> rfl

/-- A port write changes OAM through port 4 only (62_ppu.md R365). -/
theorem ppuRegWrite_oam (c : Cart) (p : Ppu) {r : Nat} (v : Byte) (h : r ≠ 4) : (ppuRegWrite c p r v).2.oam = p.oam := by
  unfold ppuRegWrite
  split
  case h_4 => exact absurd rfl h
  case h_5 => unfold writeScroll; split <;> rfl
  case h_6 => unfold writeVramAddr; split <;> rfl
  case h_7 => exact ppuWrite_oam c p p.v v
  all_goals rfl

/-- From 0x4000 on only the DMA port stores (20_memory.md R109, R113, R115). -/
theorem memWrite_stored {a : Word} (v : Byte) (s : State) (h : 0x4000 ≤ a.toNat) (hd : a ≠ 0x4014#16) :
    (memWrite a v s).stored = s.stored := by
  by_cases h1 : a = 0x4016
  · rw [h1, memWrite_port1]
    rfl
  · by_cases h2 : a = 0x4017
    · rw [h2, memWrite_port2]
      rfl
    · rw [memWrite_discarded s v h hd h1 h2]

/-- A bus write stores to its address (20_memory.md R107 to R109, R115). -/
theorem memWrite_storesOnly (a : Word) (v : Byte) (s : State) : StoresOnly [a] s.stored (memWrite a v s).stored := by
  rcases Nat.lt_or_ge a.toNat 0x2000 with hram | hram
  · rw [memWrite_ram v s (Nat.le_of_lt_succ hram)]
    exact { StoresOnly.refl _ _ with
      ram := fun i hi => Memory.read_write_ne v (hi a (.head _) (Nat.le_of_lt_succ hram)).symm s.ram }
  rcases Nat.lt_or_ge a.toNat 0x4000 with hppu | hppu
  · have hport (k : Nat) (hk : ¬ IsPort k a) : ppuPort a ≠ k :=
      fun e => hk ⟨hram, Nat.le_of_lt_succ hppu, (ppuPort_eq a).symm.trans e⟩
    rw [memWrite_ppu s v hram (Nat.le_of_lt_succ hppu)]
    exact {
      ram := fun _ _ => rfl
      video := fun h =>
        have ⟨hn, hp, hc⟩ := ppuRegWrite_video s.cart s.ppu v (hport 7 (h a (.head _)))
        ⟨hn, hp, congrArg Cart.chr hc⟩
      oam := fun h => ppuRegWrite_oam s.cart s.ppu v (hport 4 (h a (.head _)).1) }
  by_cases hdma : a = 0x4014
  · rw [hdma, memWrite_dma, oamDma]
    generalize dmaCopy s.ram v s.ppu.oam 256 = oam
    exact { StoresOnly.refl _ _ with oam := fun h => absurd rfl (h _ (.head _)).2 }
  · rw [memWrite_stored v s hppu hdma]
    exact .refl _ _

/-- From 0x4018 on a read is the cartridge's, or open bus (20_memory.md R113, R116). -/
theorem memRead_cartridge {a : Word} (s : State) (h : 0x4018 ≤ a.toNat) :
    memRead a s = ((s.cart.cpuMapRead a).getD 0x00, s) := by
  have h1 : a ≠ 0x4016#16 := by rintro rfl; simp at h
  have h2 : a ≠ 0x4017#16 := by rintro rfl; simp at h
  unfold memRead
  cases s.cart.cpuMapRead a with
  | some d => rfl
  | none => simp [show ¬ a.toNat ≤ 0x1FFF by omega, show ¬ a.toNat ≤ 0x3FFF by omega, h1, h2]

/-! ### The stack -/

section
variable (s : State)

theorem push_storesOnly (v : Byte) : StoresOnly [stackAddr s.cpu.sp] s.stored (push v s).stored :=
  memWrite_storesOnly (stackAddr s.cpu.sp) v s

theorem push_sp (v : Byte) : (push v s).cpu.sp = s.cpu.sp - 1 := by rw [push_eq]

/-- Two bytes pushed go to the two cells from SP down (44_stack.md R240). -/
theorem pushWord_storesOnly (w : Word) :
    StoresOnly [stackAddr s.cpu.sp, stackAddr (s.cpu.sp - 1)] s.stored (pushWord w s).stored := by
  have h := push_storesOnly (push (highByte w) s) (lowByte w)
  rw [push_sp] at h
  exact (push_storesOnly s _).trans h

theorem pushWord_sp (w : Word) : (pushWord w s).cpu.sp = s.cpu.sp - 2 := by
  rw [pushWord, push_sp, push_sp, BitVec.sub_sub]
  rfl

@[simp] theorem pull_stored : (pull s).2.stored = s.stored := memRead_stored _ _

@[simp] theorem pullWord_stored : (pullWord s).2.stored = s.stored := (pull_stored _).trans (pull_stored s)

@[simp] theorem memReadWord_stored (a : Word) : (memReadWord a s).2.stored = s.stored :=
  (memRead_stored _ _).trans (memRead_stored a s)

/-- An exception's entry stores its three pushes (60_exceptions.md R314). -/
theorem takeException_storesOnly (pc : Word) (status : Byte) (vector : Word) :
    StoresOnly [stackAddr s.cpu.sp, stackAddr (s.cpu.sp - 1), stackAddr (s.cpu.sp - 2)] s.stored
      (takeException pc status vector s).stored := by
  have hpush := push_storesOnly (pushWord pc s) status
  rw [pushWord_sp] at hpush
  have h : (takeException pc status vector s).stored = (push status (pushWord pc s)).stored := memReadWord_stored _ vector
  rw [h]
  exact (pushWord_storesOnly s pc).trans hpush

theorem returnFromException_stored : (returnFromException s).stored = s.stored :=
  (pullWord_stored _).trans (pull_stored s)

end

/-! ### Instruction shapes -/

/-- A mode of a memory operand. -/
def OperandMode (mode : State → Addressed) : Prop := ∃ o : MemOperand, o.mode = mode

@[simp] theorem operandMode_zp0 (zp : Byte) : OperandMode (modeZp0 zp) := ⟨.zp0 zp, rfl⟩

@[simp] theorem operandMode_zpx (zp : Byte) : OperandMode (modeZpx zp) := ⟨.zpx zp, rfl⟩

@[simp] theorem operandMode_zpy (zp : Byte) : OperandMode (modeZpy zp) := ⟨.zpy zp, rfl⟩

@[simp] theorem operandMode_abs (addr : Word) : OperandMode (modeAbs addr) := ⟨.abs addr, rfl⟩

@[simp] theorem operandMode_abx (addr : Word) : OperandMode (modeAbx addr) := ⟨.abx addr, rfl⟩

@[simp] theorem operandMode_aby (addr : Word) : OperandMode (modeAby addr) := ⟨.aby addr, rfl⟩

@[simp] theorem operandMode_izx (zp : Byte) : OperandMode (modeIzx zp) := ⟨.izx zp, rfl⟩

@[simp] theorem operandMode_izy (zp : Byte) : OperandMode (modeIzy zp) := ⟨.izy zp, rfl⟩

theorem OperandMode.start_ea {mode : State → Addressed} (h : OperandMode mode) (op : Byte) (s : State) :
    (mode (startInstr op s)).ea = (mode s).ea := by
  obtain ⟨o, rfl⟩ := h
  rw [o.mode_start]
  rfl

theorem OperandMode.start_stored {mode : State → Addressed} (h : OperandMode mode) (op : Byte) (s : State) :
    (mode (startInstr op s)).after.stored = s.stored := by
  obtain ⟨o, rfl⟩ := h
  rw [o.mode_start]
  rfl

/-- An instruction answers a next state and stores to the addresses `l` only. -/
def Stores (s : State) (l : List Word) (o : Host.Outcome State Fault Refusal) : Prop :=
  ∃ t, o = .next t ∧ StoresOnly l s.stored t.stored

section
variable {s : State} {op : Byte}

theorem StoresOnly.finish {l : List Word} {t : State} (h : StoresOnly l s.stored t.stored) (e : Bool) :
    Stores s l (.next (finishInstr op e t)) := ⟨_, rfl, h⟩

/-- An instruction whose work leaves the memories stores nothing. -/
theorem stores_nothing {t : State} (h : t.stored = s.stored) (e : Bool) : Stores s [] (.next (finishInstr op e t)) :=
  StoresOnly.finish (h ▸ .refl [] s.stored) e

theorem runImm_stores {effect : Byte → State → State} {m : Byte} (he : ∀ m u, (effect m u).stored = u.stored) :
    Stores s [] (runImm op effect m s) := stores_nothing (he ..) _

theorem runModifyA_stores {effect : Byte → State → Byte × State} (he : ∀ m u, (effect m u).2.stored = u.stored) :
    Stores s [] (runModifyA op effect s) := stores_nothing ((setA_stored ..).trans (he ..)) _

/-- What a mode's reads and the operand's read leave of the memories. -/
theorem OperandMode.read_stored {mode : State → Addressed} (h : OperandMode mode) (a : Word) (m : Byte) :
    ((memRead a (mode (startInstr op s)).after).2.noteFetched m).stored = s.stored :=
  (memRead_stored a _).trans (h.start_stored op s)

theorem runRead_stores {o : Bool} {mode : State → Addressed} {effect : Byte → State → State} (hm : OperandMode mode)
    (he : ∀ m u, (effect m u).stored = u.stored) : Stores s [] (runRead op o mode effect s) :=
  stores_nothing ((he ..).trans (hm.read_stored ..)) _

theorem runStore_stores {mode : State → Addressed} {value : State → Byte} (hm : OperandMode mode) :
    Stores s [(mode s).ea] (runStore op mode value s) := by
  refine StoresOnly.finish ?_ _
  rw [← hm.start_ea op, ← hm.start_stored op]
  exact memWrite_storesOnly ..

theorem runModify_stores {mode : State → Addressed} {effect : Byte → State → Byte × State} (hm : OperandMode mode)
    (he : ∀ m u, (effect m u).2.stored = u.stored) : Stores s [(mode s).ea] (runModify op mode effect s) := by
  refine StoresOnly.finish ?_ _
  rw [← hm.start_ea op, ← hm.read_stored (op := op), ← he]
  exact memWrite_storesOnly ..

theorem runImplied_stores {l : List Word} {effect : State → State}
    (he : StoresOnly l (startInstr op s).stored (effect (startInstr op s)).stored) : Stores s l (runImplied op effect s) :=
  StoresOnly.finish he _

theorem runImplied_storesNothing {effect : State → State} (he : ∀ u, (effect u).stored = u.stored) :
    Stores s [] (runImplied op effect s) := stores_nothing (he (startInstr op s)) _

theorem runJmp_stores {mode : State → Addressed} (hm : (mode (startInstr op s)).after.stored = s.stored) :
    Stores s [] (runTarget op mode opJmp s) := stores_nothing ((setPc_stored ..).trans hm) _

theorem runBranch_stores {cond : State → Bool} {rel : Byte} : Stores s [] (runBranch op cond rel s) := by
  refine stores_nothing ?_ _
  unfold branchTo
  split <;> simp

end

theorem modeInd_stored (ptr : Word) (s : State) : (modeInd ptr s).after.stored = s.stored :=
  (memRead_stored _ _).trans (memRead_stored ptr s)

theorem opJsr_storesOnly (ea : Word) (s : State) :
    StoresOnly [stackAddr s.cpu.sp, stackAddr (s.cpu.sp - 1)] s.stored (opJsr ea s).stored :=
  pushWord_storesOnly s (s.cpu.pc - 1)

theorem opBrk_storesOnly (s : State) :
    StoresOnly [stackAddr s.cpu.sp, stackAddr (s.cpu.sp - 1), stackAddr (s.cpu.sp - 2)] s.stored (opBrk s).stored :=
  takeException_storesOnly (s.setPc (s.cpu.pc + 1)) _ _ _

/-- Every instruction stores only to the addresses of `storedTo`, shape by shape. -/
theorem exec_stores (i : Instr) (s : State) : Stores s (storedTo i s) (exec i s) := by
  cases i <;> dsimp only [exec, storedTo]
  case staIzx | styZp0 | staZp0 | stxZp0 | styAbs | staAbs | stxAbs | staIzy | styZpx | staZpx | stxZpy | staAby
    | staAbx =>
    exact runStore_stores (by simp)
  case aslZp0 | aslAbs | aslZpx | aslAbx | rolZp0 | rolAbs | rolZpx | rolAbx | lsrZp0 | lsrAbs | lsrZpx | lsrAbx
    | rorZp0 | rorAbs | rorZpx | rorAbx | decZp0 | decAbs | decZpx | decAbx | incZp0 | incAbs | incZpx | incAbx =>
    exact runModify_stores (by simp) (by simp [opAsl, opRol, opLsr, opRor, opDec, opInc])
  case pha => exact runImplied_stores (push_storesOnly (startInstr 0x48 s) _)
  case php => exact runImplied_stores (push_storesOnly (startInstr 0x08 s) _)
  case brk => exact runImplied_stores (opBrk_storesOnly (startInstr 0x00 s))
  case jsr addr =>
    refine StoresOnly.finish ?_ _
    exact opJsr_storesOnly addr ((startInstr 0x20 s).noteEa addr)
  case jmpAbs addr => exact runJmp_stores ((operandMode_abs addr).start_stored ..)
  case jmpInd ptr => exact runJmp_stores (modeInd_stored ptr _)
  case bpl | bmi | bvc | bvs | bcc | bcs | bne | beq => exact runBranch_stores
  case pla => exact runImplied_storesNothing pull_stored
  case plp => exact runImplied_storesNothing pull_stored
  case rts => exact runImplied_storesNothing pullWord_stored
  case rti => exact runImplied_storesNothing returnFromException_stored
  case clc | sec | cli | sei | clv | cld | sed | inx | iny | dex | dey | tax | tay | txa | tya | tsx | txs | nop =>
    exact runImplied_storesNothing (by simp [opClc, opSec, opCli, opSei, opClv, opCld, opSed, opInx, opIny, opDex,
      opDey, opTax, opTay, opTxa, opTya, opTsx, opTxs, opNop])
  case aslAcc | rolAcc | lsrAcc | rorAcc => exact runModifyA_stores (by simp [opAsl, opRol, opLsr, opRor])
  case oraImm | andImm | eorImm | adcImm | ldyImm | ldxImm | ldaImm | cpyImm | cmpImm | cpxImm | sbcImm =>
    exact runImm_stores (by simp [opOra, opAnd, opEor, opAdc, opLdy, opLdx, opLda, opCpy, opCmp, opCpx, opSbc])
  all_goals
    exact runRead_stores (by simp)
      (by simp [opOra, opAnd, opEor, opBit, opAdc, opLdy, opLdx, opLda, opCpy, opCmp, opCpx, opSbc])

/-- Settles O24: the bytes of RAM by `exec_stores`, those of the cartridge by the header and the PRG that `exec_moves`
leaves. -/
theorem instructionsStoreOnlyWhereTheySay : Obligations.InstructionsStoreOnlyWhereTheySay := by
  intro i s t h
  obtain ⟨u, hu, hstores⟩ := exec_stores i s
  obtain ⟨v, hv, hmove, -⟩ := exec_moves i s
  obtain rfl : u = t := Host.Outcome.next.inj (hu.symm.trans h)
  obtain rfl : v = u := Host.Outcome.next.inj (hv.symm.trans h)
  refine ⟨fun a ha hb => ?_, hstores.video, hstores.oam⟩
  rcases ha with hram | hcart
  · rw [memRead_ram _ hram, memRead_ram _ hram]
    refine hstores.ram _ fun b hmem hle e => hb b hmem ⟨hram, hle, ?_⟩
    rw [← ramIndex_toNat, ← ramIndex_toNat, e]
  · rw [memRead_cartridge _ hcart, memRead_cartridge _ hcart, hmove.cart]
    rfl

end Sys2Proof.Machine
end

section
/-! ## The CPU's clock and the tick (40_cycle_and_addressing.md R170 to R175, 61_system_clock.md R341, R342) -/

namespace Sys2Proof.Machine

/-! ### A tick, by what the CPU's clock answers -/

/-- A tick that does not clock the CPU is the PPU's clock and the end of the tick (61_system_clock.md R341, R342). -/
theorem step_of_noCpuClock {s : State} (hs : s.canClock = true) (hf : s.fault = none) (ht : s.tick % 3 ≠ 0) :
    step s = .next (endTick (tickPpu s)) := by
  have ht' : ¬ (tickPpu s).tick % 3 = 0 := ht
  simp [step, clock, hs, hf, ht']

/-- A CPU clock while Executing takes one off the count (40_cycle_and_addressing.md R170). -/
theorem cpuClock_of_executing {s : State} (hf : s.fault = none) (hc : 0 < s.cpu.cycles) :
    cpuClock s = .next (countDown s) := by
  simp [cpuClock, hf, Nat.pos_iff_ne_zero.mp hc]

/-- A CPU clock that is Idle and takes an IRQ enters it and counts its first clock (40_cycle_and_addressing.md R170,
60_exceptions.md R315). -/
theorem cpuClock_of_irq {s : State} (hf : s.fault = none) (hc : s.cpu.cycles = 0)
    (hi : irqAsserted s.params.irqLine s.tick = true) (hflag : s.flag .interruptDisable = false) :
    cpuClock s = .next (countDown (interruptEntry irqVector s.params.irqCycles s)) := by
  simp [cpuClock, irqEntry, hf, hc, hi, hflag]

/-- After a CPU clock without a fault the tick ends (61_system_clock.md R341). -/
theorem step_of_cpuClock_noFault {s t : State} (hs : s.canClock = true) (hf : s.fault = none) (ht : s.tick % 3 = 0)
    (h : cpuClock (tickPpu s) = .next t) (hft : t.fault = none) : step s = .next (endTick t) := by
  rw [step_of_cpuClock hs hf ht h, afterCpu, hft]
  rfl

theorem afterIdleWork_of_noFault {s : State} (h : s.fault = none) : afterIdleWork s = countDown s := by
  rw [afterIdleWork, h]
  rfl

/-- Settles O29: the two ticks that do not clock the CPU, and the CPU's clock while Executing. -/
theorem otherTicksOnlyCountDown : Obligations.OtherTicksOnlyCountDown := by
  intro s hs hf u
  exact ⟨step_of_noCpuClock hs hf,
    fun ht hc => step_of_cpuClock_noFault hs hf ht (cpuClock_of_executing (s := u) hf hc) hf⟩

/-! ### Interrupt entry as the rules give it (60_exceptions.md R314) -/

/-- The status byte an interrupt pushes: Break cleared, Unused set, and I set under `After`. -/
theorem statusForInterrupt_eq (mode : PushedIMode) (p : Byte) :
    statusForInterrupt mode p = ((p &&& 0xEF) ||| 0x20) ||| (if mode = .after then 0x04 else 0x00) := by
  cases mode with
  | before => exact BitVec.or_zero.symm
  | after => rfl

/-- P after an exception: I and U set. -/
theorem status_afterException (p : Byte) : withFlag (withFlag p .interruptDisable true) .unused true = p ||| 0x24 := by
  simp [withFlag, flagMask, flagBit, BitVec.or_assoc]

/-- The stack's cells by `pushCell` (44_stack.md R240). -/
theorem pushCell_eq (sp : Byte) {k : Nat} (hk : k < 256) : pushCell sp k = 256 + (sp - BitVec.ofNat 8 k).toNat := by
  rw [pushCell, BitVec.toNat_sub, BitVec.toNat_ofNat]
  omega

/-- The model's entry of an interrupt is the rules' (60_exceptions.md R314). -/
theorem interruptEntry_eq_interrupted {vector : Word} (n : Nat) (s : State) (h : 0x8000 ≤ vector.toNat)
    (h' : 0x8000 ≤ (vector + 1).toNat) : interruptEntry vector n s = interrupted vector n s := by
  have hhigh : highByte s.cpu.pc = BitVec.ofNat 8 (s.cpu.pc.toNat / 256) := by
    rw [← highByte_toNat, BitVec.ofNat_toNat, BitVec.setWidth_eq]
  have hlow : lowByte s.cpu.pc = BitVec.ofNat 8 s.cpu.pc.toNat := (BitVec.ofNat_toNat ..).symm
  have hcell : pushCell s.cpu.sp 0 = 256 + s.cpu.sp.toNat := (pushCell_eq _ (by decide)).trans (by simp)
  rw [interruptEntry_eq n s h h', interrupted, hhigh, hlow, hcell, pushCell_eq _ (by decide), pushCell_eq _ (by decide),
    vectorWord, ← wordOfBytes_eq, status_afterException, statusForInterrupt_eq]
  rfl

/-- Settles O32: the CPU's clock enters the IRQ, and the entry is `interrupted` with one clock of the count gone. -/
theorem irqEnteredWhenIdle : Obligations.IrqEnteredWhenIdle := by
  intro s hs hf ht hc hi hflag
  have h := cpuClock_of_irq (s := tickPpu s) hf hc hi hflag
  rw [interruptEntry_eq_interrupted _ _ (by decide) (by decide)] at h
  exact step_of_cpuClock_noFault hs hf ht h hf

end Sys2Proof.Machine

namespace Sys2Proof

/-! ### The fetch (40_cycle_and_addressing.md R171, R172) -/

/-- How many bytes the fetch of a form reads, its opcode among them (40_cycle_and_addressing.md R172). -/
def Form.fetches : Form → Nat
  | .implied _ => 1
  | .padded _ => 1
  | .byte _ => 2
  | .word _ => 3

/-- An instruction other than BRK is fetched whole. -/
theorem Form.Writes.fetches {f : Form} {i : Instr} {tail : List Byte} (hw : f.Writes i tail) (hi : i ≠ .brk) :
    tail.length + 1 = f.fetches := by
  cases hw with
  | brk => exact absurd rfl hi
  | _ => rfl

end Sys2Proof

namespace Sys2Proof.Machine

/-- BRK's row is the padded one (47_flags_system.md R298). -/
theorem form_of_writes_brk {op : Byte} {row : Row} {tail : List Byte} (h : lookupOpcode op = some row)
    (hw : row.form.Writes .brk tail) : row.form = .padded .brk := by
  obtain ⟨rfl, -⟩ := List.cons.inj (encode_of_writes h hw)
  have hbrk : lookupOpcode 0x00 = some ⟨0x00, .padded .brk, 7⟩ := rfl
  rw [Option.some.inj (h.symm.trans hbrk)]

/-- An instruction's fetch reads the bytes its row's form takes. -/
theorem fetchedBytes_eq {op : Byte} {row : Row} {i : Instr} {bytes rest : List Byte} (h : lookupOpcode op = some row)
    (hc : row.form.complete bytes = some (i, rest)) : fetchedBytes i = row.form.fetches := by
  rcases Form.complete_eq_some hc with ⟨hp, -⟩ | ⟨tail, hw, -⟩
  · obtain ⟨rfl, -⟩ := brk_of_padded h hp
    rw [hp]
    rfl
  · by_cases hi : i = .brk
    · subst hi
      rw [form_of_writes_brk h hw]
      rfl
    · rw [fetchedBytes, if_neg hi, encode_of_writes h hw]
      exact hw.fetches hi

/-- A fetched byte is a bus read at the PC, which moves on by one (20_memory.md R133). -/
theorem fetchByte_withCpu (s : State) (c : Cpu) :
    fetchByte { s with cpu := c } =
      ((memRead c.pc s).1, { (memRead c.pc s).2 with cpu := { c with pc := c.pc + 1 } }) := by
  unfold fetchByte
  rw [memRead_withCpu]
  rfl

/-- The machine after the reads of the first `n` bytes from `pc`, one to three (40_cycle_and_addressing.md R172). -/
def fetchReads (n : Nat) (pc : Word) (s : State) : State :=
  let b₀ := memRead pc s
  let b₁ := memRead (pc + 1) b₀.2
  let b₂ := memRead (pc + 2) b₁.2
  if n = 1 then b₀.2 else if n = 2 then b₁.2 else b₂.2

theorem fetchReads_fault (n : Nat) (pc : Word) (s : State) : (fetchReads n pc s).fault = s.fault := by
  unfold fetchReads
  split_ifs <;> simp

/-- After the opcode at `pc` the operand bytes are read in order, and they are the ones that complete the form. -/
theorem readOperands_eq {f : Form} {i : Instr} {rest : List Byte} {pc : Word} {s : State} (c : Cpu)
    (h : f.complete [(memRead (pc + 1) (memRead pc s).2).1,
      (memRead (pc + 2) (memRead (pc + 1) (memRead pc s).2).2).1] = some (i, rest)) :
    readOperands f { (memRead pc s).2 with cpu := { c with pc := pc + 1 } } =
      (i, { fetchReads f.fetches pc s with cpu := { c with pc := pc + BitVec.ofNat 16 f.fetches } }) := by
  have htwo : pc + 1 + 1 = pc + 2 := BitVec.add_assoc ..
  have hthree : pc + 2 + 1 = pc + 3 := BitVec.add_assoc ..
  cases f with
  | implied j => cases h; rfl
  | padded j => cases h; rfl
  | byte g =>
    cases h
    simp only [readOperands, fetchByte_withCpu, htwo]
    rfl
  | word g =>
    cases h
    simp only [readOperands, fetchByte_withCpu, htwo, hthree]
    rfl

/-- An opcode with a row runs the instruction its operand bytes complete (40_cycle_and_addressing.md R171). -/
theorem executeInstruction_of_row {s : State} {row : Row} (h : lookupOpcode (memRead s.cpu.pc s).1 = some row) :
    executeInstruction s =
      let r := readOperands row.form { (memRead s.cpu.pc s).2 with
        cpu := { s.cpu with pc := s.cpu.pc + 1, p := s.cpu.p ||| 0x20 } }
      exec r.1 r.2 := by
  rcases executeInstruction_cases (s := s) rfl with ⟨hnone, -⟩ | ⟨row', hrow, e⟩
  · rw [fetchOpcode_eq, h] at hnone
    cases hnone
  · rw [fetchOpcode_eq] at hrow e
    cases h.symm.trans hrow
    exact e

/-- Settles O27: the fetch reads the bytes of the row's form in order, and the instruction they complete is `i`. -/
theorem stepRunsDecodedInstruction : Obligations.StepRunsDecodedInstruction := by
  intro s t i rest hs hf ht u b₀ b₁ b₂ fetched hc hi hdec hexec
  obtain ⟨op, tail, row, hbytes, hrow, hcomp⟩ := decode_eq_some.mp hdec
  obtain ⟨rfl, rfl⟩ := List.cons.inj hbytes
  have hfetch := readOperands_eq { u.cpu with p := u.cpu.p ||| 0x20 } hcomp
  rw [← fetchedBytes_eq hrow hcomp] at hfetch
  have hexecute : executeInstruction u = .next t :=
    (executeInstruction_of_row hrow).trans ((congrArg (fun r => exec r.1 r.2) hfetch).trans hexec)
  have hfault : t.fault = none := by
    obtain ⟨v, hv, hmove, -⟩ := exec_moves i _
    obtain rfl : v = t := Host.Outcome.next.inj (hv.symm.trans hexec)
    exact hmove.noFault.trans ((fetchReads_fault (fetchedBytes i) u.cpu.pc u).trans hf)
  have hclock := cpuClock_of_execute (s := u) hf hc hi hexecute
  rw [afterIdleWork_of_noFault hfault] at hclock
  exact step_of_cpuClock_noFault hs hf ht hclock hfault

end Sys2Proof.Machine
end

section
/-! ## Instructions that read, modify or only touch registers (40_cycle_and_addressing.md R171 to R177)

Every form of such an instruction is one shape run on one operation. `Leaves` says what an operation makes of the CPU it
starts on; a rule per shape turns that into the whole next state of every form. -/

namespace Sys2Proof.Machine

/-! ### The status byte -/

/-- Setting U changes no flag an instruction asks for. -/
theorem statusIs_started (p : Byte) : StatusIs (withFlag p .unused true) p noFlag := by
  intro f
  rw [flagOf_withFlag]
  by_cases hf : f = .unused
  · rw [if_pos hf, if_pos hf.symm]
  · rw [if_neg hf, if_neg (Ne.symm hf)]
    rfl

/-- A write of one flag adds it to those written before. -/
theorem StatusIs.setFlag {s : State} {p : Byte} {new : Flag → Option Bool} (h : StatusIs s.cpu.p p new) {f : Flag}
    (hf : f ≠ .unused) (b : Bool) : StatusIs (s.setFlag f b).cpu.p p (fun g => if g = f then some b else new g) := by
  intro g
  rw [State.setFlag_p, flagOf_withFlag, flagOf_withFlag, h g]
  by_cases hu : g = .unused
  · simp [hu]
  · by_cases hg : g = f
    · simp [hg, Ne.symm hf, hf]
    · simp [hu, hg, Ne.symm hu, Ne.symm hg]

/-- The end of an instruction sets U again, which is already set. -/
theorem StatusIs.withFlag_unused {q p : Byte} {new : Flag → Option Bool} (h : StatusIs q p new) :
    withFlag q .unused true = q := by
  refine status_ext fun f => ?_
  rw [flagOf_withFlag]
  split
  next hf => subst hf; exact (h .unused).symm
  next => rfl

/-- Z and N of a result (10_state.md R38, R44). -/
theorem statusIs_setZN {s : State} {p : Byte} (h : s.cpu.p = withFlag p .unused true) (r : Byte) :
    StatusIs (s.setZN r).cpu.p p (zeroNegative r) := by
  have h₀ : StatusIs s.cpu.p p noFlag := h ▸ statusIs_started p
  have h₁ := (h₀.setFlag (f := .zero) (by decide) (r == 0)).setFlag (f := .negative) (by decide) r.msb
  intro f
  refine (h₁ f).trans ?_
  cases f <;> rfl

/-! ### What an operation leaves -/

/-- The CPU when an instruction has started: U set, the scratch values `k`. -/
def Cpu.started (c : Cpu) (k : Scratch) : Cpu := { c with p := withFlag c.p .unused true, scratch := k }

/-- On the CPU `c`, its instruction started, the operation `f` writes the flags of `new` and the registers of `c'`, and
changes nothing else. -/
def Leaves (f : State → State) (c : Cpu) (new : Flag → Option Bool) (c' : Cpu) : Prop :=
  ∀ (s : State) (k : Scratch), ∃ q, StatusIs q c.p new ∧
    f { s with cpu := c.started k } = { s with cpu := { c' with p := q, scratch := k } }

/-- An operation that changes registers other than P, then writes Z and N. -/
theorem leaves_of_setZN {f : State → State} {c c' : Cpu} {r : Byte} (hp : c'.p = c.p)
    (h : ∀ (s : State) k, f { s with cpu := c.started k } = State.setZN { s with cpu := c'.started k } r) :
    Leaves f c (zeroNegative r) c' := fun s k =>
  ⟨_, statusIs_setZN (s := { s with cpu := c'.started k }) (congrArg (withFlag · .unused true) hp) r, h s k⟩

/-- Setting U at the start leaves the carry in as it was. -/
theorem carryIn_started (s : State) (c : Cpu) (k : Scratch) : State.carryIn { s with cpu := c.started k } = c.carry := by
  rw [State.carryIn, State.flag, Cpu.started, flagOf_withFlag, if_neg (by decide)]
  rfl

/-- The end of an instruction whose operation has left the registers `c` and the status `q`. -/
theorem runsTo_of_finish {i : Instr} {s t u : State} {c : Cpu} {code q p : Byte} {extra : Bool} {k : Scratch}
    {new : Flag → Option Bool} {n : Nat} (hexec : exec i s = .next (finishInstr code extra t))
    (ht : t = { u with cpu := { c with p := q, scratch := k } }) (hq : StatusIs q p new)
    (hu : u.params = s.params) (hn : baseCycles s.params code + extra.toNat + k.branchExtra + k.dmaExtra = n) :
    RunsTo i s { c with p := q, cycles := n } u := by
  refine ⟨_, hexec, ?_⟩
  subst ht hn
  simp only [finishInstr, State.setCycles, State.setP, hq.withFlag_unused, hu]

/-- The first byte of an instruction and its base count, from the encoder and the table (30_encoding.md R156). -/
theorem hasCode_of_default {i : Instr} {code : Byte} {n : Nat} (h : (encode i).head? = some code)
    (h' : defaultCycles code = n) : HasCode i code n :=
  ⟨h, fun _ => ⟨fun ha => (baseCycles_of_absent ha).trans h', fun _ _ _ => baseCycles_of_listed⟩⟩

/-! ### The rule of each shape -/

/-- The operation of a read instruction on its operand M. -/
def ReadOp.effect : ReadOp → Byte → State → State
  | .adc => opAdc
  | .sbc => opSbc
  | .and_ => opAnd
  | .ora => opOra
  | .eor => opEor
  | .bit => opBit
  | .cmp => opCmp
  | .cpx => opCpx
  | .cpy => opCpy
  | .lda => opLda
  | .ldx => opLdx
  | .ldy => opLdy

/-- A read instruction by where its operand comes from. Every operation counts as eligible for the page-crossing cycle: the
ineligible ones have no form that can cross a page (30_encoding.md R155). -/
def ReadOp.run (op : ReadOp) (code : Byte) : Source → State → Host.Outcome State Fault Refusal
  | .imm m => runImm code op.effect m
  | .mem o => runRead code true o.mode op.effect

/-- Each form of a read instruction is its shape run on its operation, under the opcode listed. -/
theorem ReadOp.exec_of_form {op : ReadOp} {src : Source} {i : Instr} {code : Byte} {n : Nat}
    (h : op.form src = some (i, code, n)) : HasCode i code n ∧ exec i = op.run code src := by
  unfold ReadOp.form at h
  split at h
  all_goals cases h
  all_goals exact ⟨hasCode_of_default rfl rfl, rfl⟩

/-- A read instruction runs as its operation says. -/
theorem ReadOp.runs_of_leaves {op : ReadOp} {new : Byte → Cpu → Flag → Option Bool} {regs : Byte → Cpu → Cpu}
    (h : ∀ m c, Leaves (op.effect m) c (new m c) (regs m c)) : op.Runs new regs := by
  intro src i code n s hform
  obtain ⟨hcode, hexec⟩ := ReadOp.exec_of_form hform
  refine ⟨hcode, ?_⟩
  cases src with
  | imm m =>
    obtain ⟨q, hq, heffect⟩ := h m s.cpu s (((startInstr code s).noteEa (eaImm s)).noteFetched m).cpu.scratch
    exact ⟨q, hq, runsTo_of_finish (c := regs m s.cpu) (congrFun hexec s) heffect hq rfl rfl⟩
  | mem o =>
    let m := memRead (o.ea s) s
    obtain ⟨q, hq, heffect⟩ := h m.1 s.cpu m.2 (((startInstr code s).noteEa (o.ea s)).noteFetched m.1).cpu.scratch
    have hrun := (congrFun hexec s).trans (runRead_eq (o.mode_start code s))
    rw [Bool.and_true] at hrun
    exact ⟨q, hq, runsTo_of_finish (c := regs m.1 s.cpu) hrun heffect hq (memRead_params ..) rfl⟩

/-- The operation of a read-modify-write on the byte it reads: the result and the machine with its flags. -/
def ModifyOp.effect : ModifyOp → Byte → State → Byte × State
  | .asl => opAsl
  | .lsr => opLsr
  | .rol => opRol
  | .ror => opRor
  | .inc => opInc
  | .dec => opDec

/-- The operation of a read-modify-write changes the CPU only. -/
theorem ModifyOp.effect_cpu (op : ModifyOp) (m : Byte) (s : State) :
    (op.effect m s).2 = { s with cpu := (op.effect m s).2.cpu } := by
  cases op <;> rfl

/-- Each memory form of a read-modify-write is its shape run on its operation, under the opcode listed. -/
theorem ModifyOp.exec_of_form {op : ModifyOp} {o : MemOperand} {i : Instr} {code : Byte} {n : Nat}
    (h : op.form o = some (i, code, n)) : HasCode i code n ∧ exec i = runModify code o.mode op.effect := by
  unfold ModifyOp.form at h
  split at h
  all_goals cases h
  all_goals exact ⟨hasCode_of_default rfl rfl, rfl⟩

theorem writeStall_eq_stallOf (a : Word) (s : State) : writeStall a s = stallOf a s := by
  by_cases h : a = 0x4014#16
  · rw [h]
    exact (if_pos rfl).trans (stallOf_dma s).symm
  · rw [writeStall_ne s h, stallOf, if_neg h]

/-- The machine `s` after the write-back of a read-modify-write, `r` what its operation gave. -/
def writtenBack (ea : Word) (stall : Nat) (s : State) (r : Byte × State) : State :=
  let k := r.2.cpu.scratch
  { memWrite ea r.1 s with cpu := { r.2.cpu with scratch := { k with dmaExtra := k.dmaExtra + stall } } }

/-- A read-modify-write of memory runs as its operation says: `result` is written back, the flags are those of `new`. -/
theorem ModifyOp.runs_of_effect {op : ModifyOp} {new : Byte → Cpu → Flag → Option Bool} {result : Byte → Cpu → Byte}
    (h : ∀ m c (s : State) k, ∃ q, StatusIs q c.p (new m c) ∧
      op.effect m { s with cpu := c.started k } = (result m c, { s with cpu := { c with p := q, scratch := k } })) :
    op.Runs new result := by
  intro o i code n s hform m
  obtain ⟨hcode, hexec⟩ := ModifyOp.exec_of_form hform
  obtain ⟨q, hq, heffect⟩ := h m.1 s.cpu m.2 (((startInstr code s).noteEa (o.ea s)).noteFetched m.1).cpu.scratch
  have hrun := (congrFun hexec s).trans (runModify_eq (o.mode_start code s) op.effect_cpu)
  have hback := congrArg (writtenBack (o.ea s) (writeStall (o.ea s) s) m.2) heffect
  refine ⟨hcode, q, hq, runsTo_of_finish (c := s.cpu) hrun hback hq ?_ ?_⟩
  · rw [memWrite_params, memRead_params]
  · rw [writeStall_eq_stallOf]
    exact congrArg (baseCycles s.params code + ·) (Nat.zero_add _)

/-- An instruction of mode IMP runs as its operation says. -/
theorem impliedRuns_of_leaves {i : Instr} {code : Byte} {n : Nat} {effect : State → State}
    {new : Cpu → Flag → Option Bool} {regs : Cpu → Cpu} (hcode : HasCode i code n)
    (hexec : exec i = runImplied code effect) (h : ∀ c, Leaves effect c (new c) (regs c)) :
    ImpliedRuns i code n new regs := by
  refine ⟨hcode, fun s => ?_⟩
  obtain ⟨q, hq, heffect⟩ := h s.cpu s (startInstr code s).cpu.scratch
  exact ⟨q, hq, runsTo_of_finish (c := regs s.cpu) (congrFun hexec s) heffect hq rfl rfl⟩

end Sys2Proof.Machine
end

section
/-! ## Arithmetic, logic and increments (41_arith_logic.md) -/

namespace Sys2Proof.Machine

/-! ### Addition and subtraction (41_arith_logic.md R200, R201) -/

/-- What ADC and SBC share: A becomes its sum with `w` and the carry; C, Z and N of the sum, V as given. -/
def State.addByte (w : Byte) (overflow : Bool) (s : State) : State :=
  let r := sumByte s.cpu.a w s.carryIn
  ((((s.setFlag .carry (sumCarry s.cpu.a w s.carryIn)).setFlag .zero (r == 0)).setFlag .overflow overflow).setFlag
    .negative r.msb).setA r

theorem opAdc_eq_addByte (m : Byte) (s : State) : opAdc m s = s.addByte m (sumOverflow s.cpu.a m s.carryIn) := rfl

theorem opSbc_eq_addByte (m : Byte) (s : State) :
    opSbc m s = s.addByte (m ^^^ 0xFF) (diffOverflow s.cpu.a (m ^^^ 0xFF) s.carryIn) := rfl

/-- The flags of the sum `t` of an addition, V as given. -/
def sumFlags (t : Nat) (overflow : Bool) : Flag → Option Bool
  | .carry => some (decide (0xFF < t))
  | .zero => some (decide (t % 256 = 0))
  | .overflow => some overflow
  | .negative => some (t.testBit 7)
  | _ => none

theorem sumByte_beq_zero (a m : Byte) (c : Nat) : (sumByte a m c == 0) = decide ((a.toNat + m.toNat + c) % 256 = 0) := by
  rw [Bool.eq_iff_iff, beq_iff_eq, decide_eq_true_iff, sumByte, ← BitVec.toNat_inj, BitVec.toNat_ofNat]
  rfl

theorem sumByte_msb (a m : Byte) (c : Nat) : (sumByte a m c).msb = (a.toNat + m.toNat + c).testBit 7 := by
  rw [BitVec.msb_eq_getLsbD_last, sumByte, BitVec.getLsbD_ofNat]
  rfl

/-- The addition leaves the low byte of the sum in A, and the flags of the whole sum. -/
theorem addByte_leaves (w : Byte) (overflow : Bool) (c : Cpu) :
    Leaves (State.addByte w overflow) c (sumFlags (c.a.toNat + w.toNat + c.carry) overflow)
      { c with a := BitVec.ofNat 8 (c.a.toNat + w.toNat + c.carry) } := by
  intro s k
  simp only [State.addByte, carryIn_started, sumByte_beq_zero, sumByte_msb]
  refine ⟨_, ?_, rfl⟩
  have h₀ : StatusIs ({ s with cpu := c.started k } : State).cpu.p c.p noFlag := statusIs_started c.p
  have h := (((h₀.setFlag (f := .carry) (by decide) (sumCarry c.a w c.carry)).setFlag (f := .zero) (by decide)
    (decide ((c.a.toNat + w.toNat + c.carry) % 256 = 0))).setFlag (f := .overflow) (by decide) overflow).setFlag
    (f := .negative) (by decide) ((c.a.toNat + w.toNat + c.carry).testBit 7)
  intro f
  refine (h f).trans ?_
  cases f <;> rfl

theorem opAdc_leaves (m : Byte) (c : Cpu) :
    Leaves (opAdc m) c (sumFlags (c.a.toNat + m.toNat + c.carry) (sumOverflow c.a m c.carry))
      { c with a := BitVec.ofNat 8 (c.a.toNat + m.toNat + c.carry) } := by
  intro s k
  rw [opAdc_eq_addByte, carryIn_started]
  exact addByte_leaves m _ c s k

theorem opSbc_leaves (m : Byte) (c : Cpu) :
    Leaves (opSbc m) c
      (sumFlags (c.a.toNat + (m ^^^ 0xFF).toNat + c.carry) (diffOverflow c.a (m ^^^ 0xFF) c.carry))
      { c with a := BitVec.ofNat 8 (c.a.toNat + (m ^^^ 0xFF).toNat + c.carry) } := by
  intro s k
  rw [opSbc_eq_addByte, carryIn_started]
  exact addByte_leaves _ _ c s k

/-- Settles O6: ADC leaves the sum of A, M and the carry, and its flags. -/
theorem adcAddsOperandAndCarry : Obligations.AdcAddsOperandAndCarry :=
  ReadOp.runs_of_leaves (op := .adc) opAdc_leaves

/-- Settles O7: SBC leaves the sum of A, the complemented M and the carry, and its flags. -/
theorem sbcSubtractsOperandAndBorrow : Obligations.SbcSubtractsOperandAndBorrow :=
  ReadOp.runs_of_leaves (op := .sbc) opSbc_leaves

/-! ### V and C as signed and unsigned arithmetic (10_state.md R37, R43, 41_arith_logic.md R201, R202) -/

/-- The mask 0x80 tests bit 7. -/
theorem and_0x80_ne_zero (b : Byte) : b &&& 0x80 ≠ 0 ↔ b.msb = true := by
  have h : b &&& 0x80 = if b.getLsbD 7 then BitVec.twoPow 8 7 else 0#8 := BitVec.and_twoPow b 7
  rw [h, BitVec.msb_eq_getLsbD_last]
  cases b.getLsbD 7 <;> simp

theorem carry_le_one (c : Cpu) : c.carry ≤ 1 := Bool.toNat_le _

/-- The V of an addition says that its two operands have one sign and the sum the other. -/
theorem sumOverflow_eq (a m : Byte) (c : Nat) :
    sumOverflow a m c = (a.msb == m.msb && a.msb != (sumByte a m c).msb) := by
  rw [sumOverflow, Bool.eq_iff_iff, decide_eq_true_iff, and_0x80_ne_zero, BitVec.msb_and, BitVec.msb_not, BitVec.msb_xor,
    BitVec.msb_xor]
  generalize a.msb = x, m.msb = y, (sumByte a m c).msb = z
  decide +revert

/-- The formula SBC has for V is that of the addition it makes. -/
theorem diffOverflow_eq_sumOverflow (a w : Byte) (c : Nat) : diffOverflow a w c = sumOverflow a w c := by
  rw [sumOverflow_eq, diffOverflow, Bool.eq_iff_iff, decide_eq_true_iff, and_0x80_ne_zero, BitVec.msb_and, BitVec.msb_xor,
    BitVec.msb_xor]
  generalize a.msb = x, w.msb = y, (sumByte a w c).msb = z
  decide +revert

/-- V is the signed overflow of an addition with carry. -/
theorem sumOverflow_iff (a m : Byte) {c : Nat} (hc : c ≤ 1) :
    sumOverflow a m c = true ↔ a.toInt + m.toInt + c < -128 ∨ 127 < a.toInt + m.toInt + c := by
  have hsum : (sumByte a m c).toNat = (a.toNat + m.toNat + c) % 256 := BitVec.toNat_ofNat ..
  have ha := a.isLt
  have hm := m.isLt
  rw [sumOverflow_eq, BitVec.toInt_eq_toNat_cond, BitVec.toInt_eq_toNat_cond]
  simp only [BitVec.msb_eq_decide, hsum, Bool.and_eq_true, beq_iff_eq, bne_iff_ne, decide_eq_decide, ne_eq]
  omega

theorem xor_0xFF_toNat (m : Byte) : (m ^^^ 0xFF).toNat = 255 - m.toNat := by
  have h : m ^^^ 0xFF = ~~~m := BitVec.xor_allOnes
  rw [h, BitVec.toNat_not]

theorem xor_0xFF_toInt (m : Byte) : (m ^^^ 0xFF).toInt = -m.toInt - 1 := by
  have h := xor_0xFF_toNat m
  have hm := m.isLt
  rw [BitVec.toInt_eq_toNat_cond, BitVec.toInt_eq_toNat_cond]
  omega

/-- The flags after a read instruction that runs, but for U. -/
theorem ReadOp.Runs.flags {op : ReadOp} {new : Byte → Cpu → Flag → Option Bool} {regs : Byte → Cpu → Cpu}
    (hop : op.Runs new regs) {src : Source} {i : Instr} {code : Byte} {n : Nat} {s : State}
    (h : op.form src = some (i, code, n)) :
    ∃ t, exec i s = .next t ∧ ∀ f b, f ≠ .unused → new (src.value s) s.cpu f = some b → t.flag f = b := by
  obtain ⟨-, q, hq, t, hexec, ht⟩ := hop src i code n s h
  refine ⟨t, hexec, fun f b hf hb => ?_⟩
  have hflag : t.flag f = flagOf q f := by rw [ht]; rfl
  rw [hflag, hq f, if_neg hf, hb, Option.getD_some]

/-- Settles O8: V of the sum with M and with its complement, whose signed value is `-M - 1`. -/
theorem overflowIsSignedOverflow : Obligations.OverflowIsSignedOverflow := by
  intro src i code n s a m
  have hc := carry_le_one s.cpu
  constructor
  · intro h
    obtain ⟨t, hexec, hflags⟩ := adcAddsOperandAndCarry.flags h
    have hv : t.flag .overflow = sumOverflow a m s.cpu.carry := hflags .overflow _ (by decide) rfl
    exact ⟨t, hexec, hv ▸ sumOverflow_iff a m hc⟩
  · intro h
    obtain ⟨t, hexec, hflags⟩ := sbcSubtractsOperandAndBorrow.flags h
    have hv : t.flag .overflow = diffOverflow a (m ^^^ 0xFF) s.cpu.carry := hflags .overflow _ (by decide) rfl
    have hcarry : t.flag .carry = sumCarry a (m ^^^ 0xFF) s.cpu.carry := hflags .carry _ (by decide) rfl
    refine ⟨t, hexec, ?_, ?_⟩
    · rw [hv, diffOverflow_eq_sumOverflow, sumOverflow_iff a _ hc, xor_0xFF_toInt]
      omega
    · have hm := m.isLt
      rw [hcarry, sumCarry, decide_eq_true_iff, xor_0xFF_toNat]
      omega

/-! ### Logic (41_arith_logic.md R203 to R206) -/

/-- Settles O9: each operation writes A, then Z and N from it. -/
theorem logicWritesAccumulator : Obligations.LogicWritesAccumulator :=
  ⟨ReadOp.runs_of_leaves fun _ _ => leaves_of_setZN rfl fun _ _ => rfl,
    ReadOp.runs_of_leaves fun _ _ => leaves_of_setZN rfl fun _ _ => rfl,
    ReadOp.runs_of_leaves fun _ _ => leaves_of_setZN rfl fun _ _ => rfl⟩

/-- Settles O10: BIT writes three flags and nothing else. -/
theorem bitTestsWithoutWriting : Obligations.BitTestsWithoutWriting := by
  refine ReadOp.runs_of_leaves fun m c s k => ⟨_, ?_, rfl⟩
  have h₀ : StatusIs ({ s with cpu := c.started k } : State).cpu.p c.p noFlag := statusIs_started c.p
  have h := ((h₀.setFlag (f := .zero) (by decide) (c.a &&& m == 0)).setFlag (f := .negative) (by decide)
    (m.getLsbD 7)).setFlag (f := .overflow) (by decide) (m.getLsbD 6)
  intro f
  refine (h f).trans ?_
  cases f <;> rfl

/-! ### Increment and decrement (41_arith_logic.md R207 to R212) -/

theorem add_one_eq (b : Byte) : b + 1 = BitVec.ofNat 8 (b.toNat + 1) := by
  rw [← BitVec.toNat_inj, BitVec.toNat_add, BitVec.toNat_ofNat]
  rfl

theorem sub_one_eq (b : Byte) : b - 1 = BitVec.ofInt 8 (b.toNat - 1) := by
  rw [← BitVec.toNat_inj, BitVec.toNat_sub, BitVec.toNat_ofInt, show (1 : Byte).toNat = 1 from rfl]
  omega

/-- Settles O12: each operation gives one more or one less, then Z and N of it. -/
theorem incrementsAndDecrements : Obligations.IncrementsAndDecrements := by
  simp only [Obligations.IncrementsAndDecrements, ← add_one_eq, ← sub_one_eq]
  exact ⟨
    ModifyOp.runs_of_effect fun m c s k => ⟨_, statusIs_setZN (s := { s with cpu := c.started k }) rfl (m + 1), rfl⟩,
    ModifyOp.runs_of_effect fun m c s k => ⟨_, statusIs_setZN (s := { s with cpu := c.started k }) rfl (m - 1), rfl⟩,
    impliedRuns_of_leaves (hasCode_of_default rfl rfl) rfl fun _ => leaves_of_setZN rfl fun _ _ => rfl,
    impliedRuns_of_leaves (hasCode_of_default rfl rfl) rfl fun _ => leaves_of_setZN rfl fun _ _ => rfl,
    impliedRuns_of_leaves (hasCode_of_default rfl rfl) rfl fun _ => leaves_of_setZN rfl fun _ _ => rfl,
    impliedRuns_of_leaves (hasCode_of_default rfl rfl) rfl fun _ => leaves_of_setZN rfl fun _ _ => rfl⟩

end Sys2Proof.Machine
end

section
/-! ## Compares (42_compare.md) -/

namespace Sys2Proof.Machine

/-- The flags of a compare of a register that holds `r` with `m` (42_compare.md R220). -/
def comparedFlags (r m : Byte) : Flag → Option Bool
  | .carry => some (decide (m.toNat ≤ r.toNat))
  | .zero => some (decide (r = m))
  | .negative => some ((r - m).getLsbD 7)
  | _ => none

/-- What CMP, CPX and CPY share: the three flags of the compare, and no register. -/
theorem compareFlags_leaves (r m : Byte) (c : Cpu) :
    Leaves (fun s => s.compareFlags r m) c (comparedFlags r m) c := by
  intro s k
  refine ⟨_, ?_, rfl⟩
  have h₀ : StatusIs ({ s with cpu := c.started k } : State).cpu.p c.p noFlag := statusIs_started c.p
  have h := ((h₀.setFlag (f := .carry) (by decide) (decide (m.toNat ≤ r.toNat))).setFlag (f := .zero) (by decide)
    (r == m)).setFlag (f := .negative) (by decide) (r - m).msb
  intro f
  refine (h f).trans ?_
  cases f <;> rfl

/-- Settles O11: each compare is the shared one, of its register as the instruction found it. -/
theorem comparesWriteFlagsOnly : Obligations.ComparesWriteFlagsOnly :=
  ⟨ReadOp.runs_of_leaves fun m c => compareFlags_leaves c.a m c,
    ReadOp.runs_of_leaves fun m c => compareFlags_leaves c.x m c,
    ReadOp.runs_of_leaves fun m c => compareFlags_leaves c.y m c⟩

end Sys2Proof.Machine
end

section
/-! ## Shifts and rotates (43_shift_rotate.md) -/

namespace Sys2Proof.Machine

/-! ### The form on A (40_cycle_and_addressing.md R176, R177) -/

/-- Each form on A is its shape run on its operation, under the opcode listed. -/
theorem ModifyOp.exec_of_accForm {op : ModifyOp} {i : Instr} {code : Byte} (h : op.accForm = some (i, code)) :
    HasCode i code 2 ∧ exec i = runModifyA code op.effect := by
  cases op
  all_goals cases h
  all_goals exact ⟨hasCode_of_default rfl rfl, rfl⟩

/-- The form on A runs as its operation says: `result` is left in A, the flags are those of `new`. -/
theorem ModifyOp.runsOnA_of_effect {op : ModifyOp} {new : Byte → Cpu → Flag → Option Bool} {result : Byte → Cpu → Byte}
    (h : ∀ m c (s : State) k, ∃ q, StatusIs q c.p (new m c) ∧
      op.effect m { s with cpu := c.started k } = (result m c, { s with cpu := { c with p := q, scratch := k } })) :
    op.RunsOnA new result := by
  intro i code s hform
  obtain ⟨hcode, hexec⟩ := ModifyOp.exec_of_accForm hform
  obtain ⟨q, hq, heffect⟩ := h s.cpu.a s.cpu s ((startInstr code s).noteFetched s.cpu.a).cpu.scratch
  have hA := congrArg (fun r : Byte × State => r.2.setA r.1) heffect
  exact ⟨hcode, q, hq, runsTo_of_finish (c := { s.cpu with a := result s.cpu.a s.cpu }) (congrFun hexec s) hA hq rfl rfl⟩

/-! ### The result and its flags -/

/-- C as given, Z and N of a result. -/
theorem statusIs_carry_setZN {s : State} {p : Byte} (h : s.cpu.p = withFlag p .unused true) (b : Bool) (r : Byte) :
    StatusIs ((s.setFlag .carry b).setZN r).cpu.p p (carryZeroNegative b r) := by
  have h₀ : StatusIs s.cpu.p p noFlag := h ▸ statusIs_started p
  have h₁ := ((h₀.setFlag (f := .carry) (by decide) b).setFlag (f := .zero) (by decide) (r == 0)).setFlag
    (f := .negative) (by decide) r.msb
  intro f
  refine (h₁ f).trans ?_
  cases f <;> rfl

/-- What the four operations share: the result `r`, the bit shifted out in C, then Z and N of `r`. -/
def State.shifted (out : Bool) (r : Byte) (s : State) : Byte × State := (r, (s.setFlag .carry out).setZN r)

/-- An operation that shifts runs so on memory and on A. -/
theorem ModifyOp.runs_of_shifted {op : ModifyOp} {out : Byte → Bool} {result : Byte → Cpu → Byte}
    (h : ∀ m c (s : State) k, op.effect m { s with cpu := c.started k } =
      State.shifted (out m) (result m c) { s with cpu := c.started k }) :
    op.Runs (fun m c => carryZeroNegative (out m) (result m c)) result ∧
      op.RunsOnA (fun m c => carryZeroNegative (out m) (result m c)) result := by
  have heffect : ∀ m c (s : State) k, ∃ q, StatusIs q c.p (carryZeroNegative (out m) (result m c)) ∧
      op.effect m { s with cpu := c.started k } = (result m c, { s with cpu := { c with p := q, scratch := k } }) :=
    fun m c s k => ⟨_, statusIs_carry_setZN (s := { s with cpu := c.started k }) rfl (out m) (result m c), h m c s k⟩
  exact ⟨ModifyOp.runs_of_effect heffect, ModifyOp.runsOnA_of_effect heffect⟩

/-! ### The byte moved by one bit, as arithmetic -/

/-- A left shift doubles the byte; the bit that comes in has the value 1. -/
theorem shiftLeft_or_carry (m : Byte) (b : Bool) :
    m <<< 1 ||| (if b then 0x01 else 0x00 : Byte) = BitVec.ofNat 8 (m.toNat * 2 + b.toNat) := by
  have hbit : (if b then 0x01 else 0x00 : Byte).toNat = b.toNat := by cases b <;> rfl
  have hlow : b.toNat < 2 ^ 1 := b.toNat_lt
  have hshift : m.toNat <<< 1 % 2 ^ 8 = 2 ^ 1 * (m.toNat % 128) := by omega
  rw [← BitVec.toNat_inj, BitVec.toNat_or, BitVec.toNat_shiftLeft, BitVec.toNat_ofNat, hbit, hshift,
    ← Nat.two_pow_add_eq_or_of_lt hlow]
  omega

/-- A right shift halves the byte; the bit that comes in has the value 128, a number cast to a byte as `opRor` spells it. -/
theorem carry_or_shiftRight (m : Byte) (b : Bool) :
    ((if b then 0x80 else 0x00 : Nat) : Byte) ||| m >>> 1 = BitVec.ofNat 8 (128 * b.toNat + m.toNat / 2) := by
  have hbit : ((if b then 0x80 else 0x00 : Nat) : Byte).toNat = 2 ^ 7 * b.toNat := by cases b <;> rfl
  have hb := b.toNat_lt
  have hm := m.isLt
  have hlow : m.toNat / 2 < 2 ^ 7 := by omega
  rw [← BitVec.toNat_inj, BitVec.toNat_or, BitVec.toNat_ushiftRight, BitVec.toNat_ofNat, hbit, Nat.shiftRight_one,
    ← Nat.two_pow_add_eq_or_of_lt hlow]
  omega

theorem opAsl_eq_shifted (m : Byte) (s : State) :
    opAsl m s = s.shifted (m.getLsbD 7) (BitVec.ofNat 8 (m.toNat * 2 + 0)) := by
  have h : m <<< 1 = BitVec.ofNat 8 (m.toNat * 2 + 0) := by simpa using shiftLeft_or_carry m false
  rw [opAsl, h]
  rfl

theorem opLsr_eq_shifted (m : Byte) (s : State) :
    opLsr m s = s.shifted (m.getLsbD 0) (BitVec.ofNat 8 (128 * 0 + m.toNat / 2)) := by
  have h : m >>> 1 = BitVec.ofNat 8 (128 * 0 + m.toNat / 2) := by simpa using carry_or_shiftRight m false
  rw [opLsr, h]
  rfl

theorem opRol_eq_shifted (m : Byte) (s : State) :
    opRol m s = s.shifted (m.getLsbD 7) (BitVec.ofNat 8 (m.toNat * 2 + s.carryIn)) := by
  rw [opRol, shiftLeft_or_carry]
  rfl

theorem opRor_eq_shifted (m : Byte) (s : State) :
    opRor m s = s.shifted (m.getLsbD 0) (BitVec.ofNat 8 (128 * s.carryIn + m.toNat / 2)) := by
  rw [opRor, carry_or_shiftRight]
  rfl

/-- Settles O13: each operation is the shared one, the rotates with the carry the instruction found. -/
theorem shiftsAndRotates : Obligations.ShiftsAndRotates :=
  ⟨ModifyOp.runs_of_shifted fun m _ _ _ => opAsl_eq_shifted m _,
    ModifyOp.runs_of_shifted fun m _ _ _ => opLsr_eq_shifted m _,
    ModifyOp.runs_of_shifted fun m c s k => carryIn_started s c k ▸ opRol_eq_shifted m _,
    ModifyOp.runs_of_shifted fun m c s k => carryIn_started s c k ▸ opRor_eq_shifted m _⟩

end Sys2Proof.Machine
end

section
/-! ## Stack instructions (44_stack.md) -/

namespace Sys2Proof.Machine

/-! ### The stack's cells and the status byte on the stack (44_stack.md R240, R242, R244) -/

theorem pushCell_zero (sp : Byte) : pushCell sp 0 = 256 + sp.toNat := (pushCell_eq sp (by decide)).trans (by simp)

theorem stackCell_eq (sp : Byte) (k : Nat) : stackCell sp k = 256 + (sp + BitVec.ofNat 8 k).toNat := by
  rw [stackCell, BitVec.toNat_add, BitVec.toNat_ofNat]
  omega

theorem statusForBreak_eq (p : Byte) : statusForBreak p = withFlag (withFlag p .brk true) .unused true := by
  simp [statusForBreak, withFlag, flagMask, flagBit, BitVec.or_assoc]

/-- A pushed status byte is P with B and U set. -/
theorem flagOf_statusForBreak (p : Byte) (f : Flag) :
    flagOf (statusForBreak p) f = (decide (f = .brk) || decide (f = .unused) || flagOf p f) := by
  rw [statusForBreak_eq, flagOf_withFlag, flagOf_withFlag]
  cases f <;> rfl

/-- The U an instruction sets when it starts does not show in the pushed byte, which has U set anyway. -/
theorem statusForBreak_started (p : Byte) : statusForBreak (withFlag p .unused true) = statusForBreak p := by
  refine status_ext fun f => ?_
  rw [flagOf_statusForBreak, flagOf_statusForBreak, flagOf_withFlag]
  cases f <;> rfl

theorem statusPulled_eq (b : Byte) : statusPulled b = withFlag (withFlag b .brk false) .unused true := rfl

/-- A pulled status byte is the byte on the stack with B cleared and U set. -/
theorem statusIs_statusPulled (b : Byte) : StatusIs (statusPulled b) b (oneFlag .brk false) := by
  intro f
  rw [statusPulled_eq, flagOf_withFlag, flagOf_withFlag]
  cases f <;> rfl

/-! ### A push and a pull as an instruction's operation (44_stack.md R241 to R244) -/

/-- An instruction of mode IMP whose operation pushes the byte `v`. -/
theorem runsTo_of_push {i : Instr} {code v : Byte} {s : State} {effect : State → State}
    (hexec : exec i s = runImplied code effect s)
    (heffect : effect (startInstr code s) = push v (startInstr code s)) :
    RunsTo i s
      { s.cpu with sp := s.cpu.sp - 1, p := withFlag s.cpu.p .unused true, cycles := baseCycles s.params code }
      { s with ram := s.ram.write (pushCell s.cpu.sp 0) v } := by
  rw [push_eq] at heffect
  rw [pushCell_zero]
  exact runsTo_of_finish (c := { s.cpu with sp := s.cpu.sp - 1 }) hexec heffect (statusIs_started s.cpu.p) rfl rfl

/-- A pull at an instruction's start gives the byte one above SP. -/
theorem pull_startInstr (code : Byte) (s : State) :
    pull (startInstr code s) =
      (s.ram.read (stackCell s.cpu.sp 1), (startInstr code s).setSp (s.cpu.sp + 1)) := by
  rw [pull_eq, stackCell_eq]
  rfl

/-- PLA leaves the byte one above SP in A, and its Z and N (44_stack.md R243). -/
theorem pla_runsTo (s : State) :
    let b := s.ram.read (stackCell s.cpu.sp 1)
    ∃ q, StatusIs q s.cpu.p (zeroNegative b) ∧
      RunsTo .pla s { s.cpu with a := b, sp := s.cpu.sp + 1, p := q, cycles := baseCycles s.params 0x68 } s := by
  intro b
  let pulled := ((startInstr 0x68 s).setSp (s.cpu.sp + 1)).setA b
  have heffect : opPla (startInstr 0x68 s) = pulled.setZN b := by rw [opPla, pull_startInstr]
  have hq : StatusIs (pulled.setZN b).cpu.p s.cpu.p (zeroNegative b) := statusIs_setZN rfl b
  exact ⟨_, hq, runsTo_of_finish (c := { s.cpu with a := b, sp := s.cpu.sp + 1 }) rfl heffect hq rfl rfl⟩

/-- PLP leaves the byte one above SP in P, B cleared and U set (44_stack.md R244). -/
theorem plp_runsTo (s : State) :
    let b := s.ram.read (stackCell s.cpu.sp 1)
    ∃ q, StatusIs q b (oneFlag .brk false) ∧
      RunsTo .plp s { s.cpu with sp := s.cpu.sp + 1, p := q, cycles := baseCycles s.params 0x28 } s := by
  intro b
  let pulled := (startInstr 0x28 s).setSp (s.cpu.sp + 1)
  have hq := statusIs_statusPulled b
  have heffect : opPlp (startInstr 0x28 s) = { pulled with cpu := { pulled.cpu with p := statusPulled b } } := by
    rw [opPlp, pull_startInstr, State.setP, hq.withFlag_unused]
  exact ⟨_, hq, runsTo_of_finish (c := { s.cpu with sp := s.cpu.sp + 1 }) rfl heffect hq rfl rfl⟩

/-- Settles O17: a push of A, a push of P with B and U set, and the two pulls. -/
theorem stackInstructions : Obligations.StackInstructions := by
  refine ⟨hasCode_of_default rfl rfl, hasCode_of_default rfl rfl, hasCode_of_default rfl rfl, hasCode_of_default rfl rfl,
    fun s => ?_, fun s => ⟨pla_runsTo s, plp_runsTo s⟩⟩
  have hphp : opPhp (startInstr 0x08 s) = push (statusForBreak s.cpu.p) (startInstr 0x08 s) :=
    congrArg (push · _) (statusForBreak_started s.cpu.p)
  exact ⟨_, statusIs_started s.cpu.p, runsTo_of_push (effect := opPha) rfl rfl,
    _, flagOf_statusForBreak s.cpu.p, runsTo_of_push rfl hphp⟩

end Sys2Proof.Machine
end

section
/-! ## Loads, stores and transfers (45_load_store_transfer.md) -/

namespace Sys2Proof.Machine

/-- Settles O14: each load writes its register, then Z and N from it. -/
theorem loadsWriteTheirRegister : Obligations.LoadsWriteTheirRegister :=
  ⟨ReadOp.runs_of_leaves fun _ _ => leaves_of_setZN rfl fun _ _ => rfl,
    ReadOp.runs_of_leaves fun _ _ => leaves_of_setZN rfl fun _ _ => rfl,
    ReadOp.runs_of_leaves fun _ _ => leaves_of_setZN rfl fun _ _ => rfl⟩

/-- Each form of a store is its shape run on its register, under the opcode listed. -/
theorem StoreOp.exec_of_form {op : StoreOp} {o : MemOperand} {i : Instr} {code : Byte} {n : Nat}
    (h : op.form o = some (i, code, n)) :
    HasCode i code n ∧ exec i = runStore code o.mode (fun u => op.register u.cpu) := by
  unfold StoreOp.form at h
  split at h
  all_goals cases h
  all_goals exact ⟨hasCode_of_default rfl rfl, rfl⟩

/-- The start of an instruction leaves the register a store writes. -/
theorem StoreOp.register_start (op : StoreOp) (code : Byte) (ea : Word) (s : State) :
    op.register ((startInstr code s).noteEa ea).cpu = op.register s.cpu := by
  cases op <;> rfl

/-- Settles O15: the write of the register is the store's one access of the bus, and its stall is counted. -/
theorem storesWriteTheirRegister : Obligations.StoresWriteTheirRegister := by
  intro op o i code n s hform
  obtain ⟨hcode, hexec⟩ := StoreOp.exec_of_form hform
  have hrun := (congrFun hexec s).trans (runStore_eq (o.mode_start code s))
  rw [op.register_start, writeStall_eq_stallOf] at hrun
  exact ⟨hcode, _, statusIs_started s.cpu.p,
    runsTo_of_finish (c := s.cpu) hrun rfl (statusIs_started s.cpu.p) (memWrite_params ..) rfl⟩

/-- TXS writes no flag, unlike the other transfers (45_load_store_transfer.md R261). -/
theorem opTxs_leaves (c : Cpu) : Leaves opTxs c noFlag { c with sp := c.x } :=
  fun _ _ => ⟨_, statusIs_started c.p, rfl⟩

/-- Settles O16: each transfer but TXS writes its register, then Z and N from it. -/
theorem transfersCopyOneRegister : Obligations.TransfersCopyOneRegister :=
  ⟨impliedRuns_of_leaves (hasCode_of_default rfl rfl) rfl fun _ => leaves_of_setZN rfl fun _ _ => rfl,
    impliedRuns_of_leaves (hasCode_of_default rfl rfl) rfl fun _ => leaves_of_setZN rfl fun _ _ => rfl,
    impliedRuns_of_leaves (hasCode_of_default rfl rfl) rfl fun _ => leaves_of_setZN rfl fun _ _ => rfl,
    impliedRuns_of_leaves (hasCode_of_default rfl rfl) rfl fun _ => leaves_of_setZN rfl fun _ _ => rfl,
    impliedRuns_of_leaves (hasCode_of_default rfl rfl) rfl fun _ => leaves_of_setZN rfl fun _ _ => rfl,
    impliedRuns_of_leaves (hasCode_of_default rfl rfl) rfl opTxs_leaves⟩

end Sys2Proof.Machine
end

section
/-! ## Control transfer (46_control_transfer.md) -/

namespace Sys2Proof.Machine

/-! ### Branches (46_control_transfer.md R270 to R278) -/

/-- The condition of a branch as the instruction asks it, of the machine (46_control_transfer.md R271 to R278). -/
def BranchOp.cond : BranchOp → State → Bool
  | .bcc => condBcc
  | .bcs => condBcs
  | .beq => condBeq
  | .bmi => condBmi
  | .bne => condBne
  | .bpl => condBpl
  | .bvc => condBvc
  | .bvs => condBvs

/-- Each branch is the branch law run on its condition, under the opcode listed. -/
theorem BranchOp.exec_form (op : BranchOp) (rel : Byte) :
    exec (op.form rel).1 = runBranch (op.form rel).2 op.cond rel := by
  cases op <;> rfl

theorem BranchOp.hasCode_form (op : BranchOp) (rel : Byte) : HasCode (op.form rel).1 (op.form rel).2 2 := by
  cases op <;> exact hasCode_of_default rfl rfl

/-- A branch's condition is `taken` of the status byte. -/
theorem BranchOp.cond_eq_taken (op : BranchOp) (s : State) : op.cond s = op.taken s.cpu.p := by
  have hset (b : Bool) : b = (b == true) := (beq_true b).symm
  have hclear (b : Bool) : (!b) = (b == false) := (beq_false b).symm
  cases op with
  | bcs | beq | bmi | bvs => exact hset _
  | bcc | bne | bpl | bvc => exact hclear _

/-- No branch asks for U, the one flag an instruction sets when it starts. -/
theorem BranchOp.taken_withFlag_unused (op : BranchOp) (p : Byte) :
    op.taken (withFlag p .unused true) = op.taken p := by
  cases op <;> simp [taken, flagOf_withFlag]

/-- A branch moves the PC as its flag stood before it. -/
theorem BranchOp.exec_eq (op : BranchOp) (rel : Byte) (s : State) :
    exec (op.form rel).1 s = .next (finishInstr (op.form rel).2 false
      (branchTo (op.taken s.cpu.p) (sext16 rel) ((startInstr (op.form rel).2 s).noteRel (sext16 rel)))) := by
  rw [op.exec_form, runBranch, op.cond_eq_taken]
  exact congrArg (fun b => Host.Outcome.next (finishInstr _ false (branchTo b _ _))) (op.taken_withFlag_unused s.cpu.p)

/-- The sum with the extended offset is the sum of the numbers modulo 65536 (40_cycle_and_addressing.md R182). -/
theorem add_sext16 (pc : Word) (rel : Byte) : pc + sext16 rel = BitVec.ofInt 16 (pc.toNat + rel.toInt) := by
  rw [BitVec.ofInt_add, BitVec.ofInt_natCast, BitVec.ofNat_toNat, BitVec.setWidth_eq, sext16, BitVec.signExtend]

/-- The clocks of a taken branch beyond its base count (46_control_transfer.md R270). -/
theorem branchExtra_eq (pc target : Word) :
    (if pageCrossed pc target then 2 else 1) = if target.toNat / 256 ≠ pc.toNat / 256 then 2 else 1 := by
  rw [pageCrossed_eq]
  simp only [decide_eq_true_eq]

/-- Settles O18: the branch law, taken and not taken. -/
theorem branchesFollowTheirFlag : Obligations.BranchesFollowTheirFlag := by
  intro op rel s target
  have hexec := op.exec_eq rel s
  have hq := statusIs_started s.cpu.p
  refine ⟨op.hasCode_form rel, _, hq, fun htaken => ?_, fun htaken => ?_⟩
  · rw [htaken, branchTo, if_pos rfl] at hexec
    have htarget : s.cpu.pc + sext16 rel = target := add_sext16 ..
    rw [← htarget, ← branchExtra_eq]
    exact runsTo_of_finish (c := { s.cpu with pc := s.cpu.pc + sext16 rel }) hexec rfl hq rfl rfl
  · rw [htaken, branchTo, if_neg Bool.false_ne_true] at hexec
    exact runsTo_of_finish (c := s.cpu) hexec rfl hq rfl rfl

/-! ### Jumps (46_control_transfer.md R279) -/

/-- The pointer's high byte is in the pointer's own page (40_cycle_and_addressing.md R186). -/
theorem indirectHighAddr_eq (ptr : Word) :
    indirectHighAddr ptr = if ptr.toNat % 256 = 255 then ptr - 255 else ptr + 1 := by
  have hlow : lowByte ptr = 0xFF#8 ↔ ptr.toNat % 256 = 255 := by
    rw [← BitVec.toNat_inj, lowByte_toNat, BitVec.toNat_ofNat]
  rw [indirectHighAddr]
  by_cases h : ptr.toNat % 256 = 255
  · have hmask : 0xFF00#16 = BitVec.allOnes 16 <<< 8 := rfl
    rw [if_pos (hlow.mpr h), if_pos h, hmask, ← BitVec.shiftLeft_ushiftRight]
    bv_omega
  · rw [if_neg (mt hlow.mp h), if_neg h]

/-- Settles O19: the effective address of each mode in the PC. -/
theorem jumpsLoadThePc : Obligations.JumpsLoadThePc := by
  refine ⟨fun _ => hasCode_of_default rfl rfl, fun _ => hasCode_of_default rfl rfl, fun addr s => ?_⟩
  have hq := statusIs_started s.cpu.p
  refine ⟨_, hq, runsTo_of_finish (c := { s.cpu with pc := addr }) rfl rfl hq rfl rfl, ?_⟩
  intro lo hi
  have hexec : exec (.jmpInd addr) s = runTarget 0x6C (modeInd addr) opJmp s := rfl
  rw [runTarget, modeInd_start, indirectHighAddr_eq] at hexec
  rw [← wordOfBytes_eq]
  exact runsTo_of_finish (c := { s.cpu with pc := wordOfBytes lo.1 hi.1 }) hexec rfl hq
    ((memRead_params ..).trans (memRead_params ..)) rfl

/-! ### Subroutines (46_control_transfer.md R280, R281) -/

theorem highByte_eq_ofNat (w : Word) : highByte w = BitVec.ofNat 8 (w.toNat / 256) := by
  rw [← highByte_toNat, BitVec.ofNat_toNat, BitVec.setWidth_eq]

theorem lowByte_eq_ofNat (w : Word) : lowByte w = BitVec.ofNat 8 w.toNat := (BitVec.ofNat_toNat ..).symm

/-- A push of a word writes its high byte at SP and its low byte below (44_stack.md R240). -/
theorem pushWord_eq (w : Word) (s : State) :
    pushWord w s = { s with
      ram := (s.ram.write (pushCell s.cpu.sp 0) (BitVec.ofNat 8 (w.toNat / 256))).write (pushCell s.cpu.sp 1)
        (BitVec.ofNat 8 w.toNat)
      cpu := { s.cpu with sp := s.cpu.sp - 2 } } := by
  have hsp : s.cpu.sp - 1 - 1 = s.cpu.sp - 2 := BitVec.sub_sub ..
  rw [pushCell_zero, pushCell_eq _ (by decide), ← highByte_eq_ofNat, ← lowByte_eq_ofNat, ← hsp, pushWord, push_eq,
    push_eq]
  rfl

/-- A pull of a word takes its low byte above SP and its high byte above that (44_stack.md R240). -/
theorem pullWord_eq (s : State) :
    pullWord s =
      (wordOf (s.ram.read (stackCell s.cpu.sp 1)) (s.ram.read (stackCell s.cpu.sp 2)), s.setSp (s.cpu.sp + 2)) := by
  have hsp : s.cpu.sp + 1 + 1 = s.cpu.sp + 2 := BitVec.add_assoc ..
  have hcell : stackCell s.cpu.sp 2 = 256 + (s.cpu.sp + 1 + 1).toNat :=
    (stackCell_eq ..).trans (congrArg (256 + ·.toNat) hsp.symm)
  rw [stackCell_eq, hcell, ← wordOfBytes_eq, ← hsp, pullWord, pull_eq, pull_eq]
  rfl

/-- Settles O20: JSR by the word it pushes, RTS by the word it pulls. -/
theorem subroutineCallAndReturn : Obligations.SubroutineCallAndReturn := by
  refine ⟨fun _ => hasCode_of_default rfl rfl, hasCode_of_default rfl rfl, fun addr s => ?_⟩
  have hq := statusIs_started s.cpu.p
  refine ⟨_, hq, ?_, ?_⟩
  · have hexec : exec (.jsr addr) s = runTarget 0x20 (modeAbs addr) opJsr s := rfl
    rw [runTarget, opJsr, pushWord_eq] at hexec
    exact runsTo_of_finish (c := { s.cpu with pc := addr, sp := s.cpu.sp - 2 }) hexec rfl hq rfl rfl
  · have hexec : exec .rts s = runImplied 0x60 opRts s := rfl
    rw [runImplied, opRts, pullWord_eq] at hexec
    exact runsTo_of_finish
      (c := { s.cpu with
        pc := wordOf (s.ram.read (stackCell s.cpu.sp 1)) (s.ram.read (stackCell s.cpu.sp 2)) + 1
        sp := s.cpu.sp + 2 }) hexec rfl hq rfl rfl

end Sys2Proof.Machine
end

section
/-! ## Flag and system instructions (47_flags_system.md) -/

namespace Sys2Proof.Machine

/-! ### Flag instructions and NOP (47_flags_system.md R290 to R297) -/

/-- What the flag instructions share: their one flag, and no register. -/
theorem setFlag_leaves {f : Flag} (hf : f ≠ .unused) (b : Bool) (c : Cpu) :
    Leaves (fun s => s.setFlag f b) c (oneFlag f b) c := fun s k =>
  ⟨_, StatusIs.setFlag (s := { s with cpu := c.started k }) (statusIs_started c.p) hf b, rfl⟩

theorem opNop_leaves (c : Cpu) : Leaves opNop c noFlag c := fun _ _ => ⟨_, statusIs_started c.p, rfl⟩

/-- Settles O21: each flag instruction writes its flag, and NOP leaves the machine as the instruction's start made it. -/
theorem flagInstructionsWriteOneFlag : Obligations.FlagInstructionsWriteOneFlag :=
  ⟨impliedRuns_of_leaves (hasCode_of_default rfl rfl) rfl (setFlag_leaves (by decide) false),
    impliedRuns_of_leaves (hasCode_of_default rfl rfl) rfl (setFlag_leaves (by decide) false),
    impliedRuns_of_leaves (hasCode_of_default rfl rfl) rfl (setFlag_leaves (by decide) false),
    impliedRuns_of_leaves (hasCode_of_default rfl rfl) rfl (setFlag_leaves (by decide) false),
    impliedRuns_of_leaves (hasCode_of_default rfl rfl) rfl (setFlag_leaves (by decide) true),
    impliedRuns_of_leaves (hasCode_of_default rfl rfl) rfl (setFlag_leaves (by decide) true),
    impliedRuns_of_leaves (hasCode_of_default rfl rfl) rfl (setFlag_leaves (by decide) true),
    impliedRuns_of_leaves (hasCode_of_default rfl rfl) rfl opNop_leaves⟩

/-! ### BRK (47_flags_system.md R298) -/

/-- The CPU does not show in a vector's word. -/
theorem vectorWord_withCpu (s : State) (c : Cpu) (vector : Word) :
    vectorWord { s with cpu := c } vector = vectorWord s vector := by
  rw [vectorWord, memRead_withCpu vector, memRead_withCpu (vector + 1)]
  rfl

/-- BRK's operation: the address past its padding byte and P with B and U set pushed, I set, the PC at the vector. -/
theorem opBrk_eq (s : State) :
    let resume := s.cpu.pc + 1
    opBrk s =
      { s with
        ram := ((s.ram.write (pushCell s.cpu.sp 0) (BitVec.ofNat 8 (resume.toNat / 256))).write (pushCell s.cpu.sp 1)
          (BitVec.ofNat 8 resume.toNat)).write (pushCell s.cpu.sp 2) (statusForBreak s.cpu.p)
        cpu := { s.cpu with
          sp := s.cpu.sp - 3
          pc := vectorWord s 0xFFFE
          p := (s.setFlag .interruptDisable true).cpu.p } } := by
  intro resume
  have hvector : vectorWord (s.setPc resume) irqVector = vectorWord s irqVector := vectorWord_withCpu ..
  rw [vectorWord] at hvector
  rw [opBrk, takeException_eq _ _ _ (by decide) (by decide), wordOfBytes_eq, State.setPc_pc, hvector, highByte_eq_ofNat,
    lowByte_eq_ofNat, pushCell_zero, pushCell_eq _ (by decide), pushCell_eq _ (by decide)]
  rfl

/-- Settles O22: BRK's operation on the started instruction, whose U shows neither in the pushed byte nor in the vector. -/
theorem brkEntersTheVector : Obligations.BrkEntersTheVector := by
  refine ⟨hasCode_of_default rfl rfl, fun s => ?_⟩
  have hq := StatusIs.setFlag (s := startInstr 0x00 s) (statusIs_started s.cpu.p) (f := .interruptDisable) (by decide) true
  have hexec : exec .brk s = runImplied 0x00 opBrk s := rfl
  have hpushed : statusForBreak (startInstr 0x00 s).cpu.p = statusForBreak s.cpu.p := statusForBreak_started s.cpu.p
  have hvector : vectorWord (startInstr 0x00 s) 0xFFFE = vectorWord s 0xFFFE :=
    vectorWord_withCpu s (startInstr 0x00 s).cpu _
  rw [runImplied, opBrk_eq, hpushed, hvector] at hexec
  exact ⟨_, _, hq, flagOf_statusForBreak s.cpu.p,
    runsTo_of_finish (c := { s.cpu with sp := s.cpu.sp - 3, pc := vectorWord s 0xFFFE }) hexec rfl hq rfl rfl⟩

/-! ### RTI (47_flags_system.md R299) -/

/-- RTI's operation: P from the byte above SP with B cleared and U set, the PC from the two bytes above that. -/
theorem opRti_eq (s : State) :
    opRti s =
      { s with cpu := { s.cpu with
          pc := wordOf (s.ram.read (stackCell s.cpu.sp 2)) (s.ram.read (stackCell s.cpu.sp 3))
          sp := s.cpu.sp + 3
          p := statusPulled (s.ram.read (stackCell s.cpu.sp 1)) } } := by
  have htwo : s.cpu.sp + 1 + 1 = s.cpu.sp + 2 := BitVec.add_assoc ..
  have hthree : s.cpu.sp + 2 + 1 = s.cpu.sp + 3 := BitVec.add_assoc ..
  rw [opRti, returnFromException_eq, (statusIs_statusPulled _).withFlag_unused, wordOfBytes_eq, htwo, hthree, stackCell_eq,
    stackCell_eq, stackCell_eq]
  rfl

/-- Settles O23: RTI's operation on the started instruction. -/
theorem rtiRestoresStatusAndPc : Obligations.RtiRestoresStatusAndPc := by
  refine ⟨hasCode_of_default rfl rfl, fun s => ?_⟩
  have hq := statusIs_statusPulled (s.ram.read (stackCell s.cpu.sp 1))
  exact ⟨_, hq, runsTo_of_finish
    (c := { s.cpu with
      pc := wordOf (s.ram.read (stackCell s.cpu.sp 2)) (s.ram.read (stackCell s.cpu.sp 3))
      sp := s.cpu.sp + 3 }) rfl (opRti_eq (startInstr 0x40 s)) hq rfl rfl⟩

end Sys2Proof.Machine
end

section
/-! ## What every clock and every instruction answers (60_exceptions.md R310 to R316, 61_system_clock.md R341 to R343) -/

namespace Sys2Proof.Machine

/-- Settles O25: every instruction is a `CpuMove` that leaves U set. -/
theorem noInstructionFaults : Obligations.NoInstructionFaults := by
  intro i s
  obtain ⟨t, ht, hmove, hunused⟩ := exec_moves i s
  refine ⟨t, ht, ?_, hmove.chrRom, hunused, hmove.brk⟩
  rw [← hmove.cart, ← hmove.live1, ← hmove.live2, ← hmove.tick, ← hmove.noFault, ← hmove.ready, ← hmove.params]

/-- A fetch and execution always answers a next state (60_exceptions.md R310, R311). -/
theorem executeInstruction_next (s : State) : ∃ t, executeInstruction s = .next t := by
  rcases executeInstruction_cases (s := s) rfl with ⟨-, h⟩ | ⟨row, -, h⟩
  · exact ⟨_, h⟩
  · obtain ⟨t, ht, -⟩ := exec_moves _ _
    exact ⟨t, h.trans ht⟩

/-- A clock of the CPU always answers a next state (40_cycle_and_addressing.md R170). -/
theorem cpuClock_next (s : State) : ∃ t, cpuClock s = .next t := by
  obtain ⟨u, hu⟩ := executeInstruction_next s
  unfold cpuClock
  rw [hu]
  split_ifs <;> exact ⟨_, rfl⟩

/-- A machine that is not ready is refused its clock (61_system_clock.md R341). -/
theorem step_of_not_canClock {s : State} (h : s.canClock = false) : step s = .refused .notReady := if_pos h

/-- A machine that is ready takes its clock (61_system_clock.md R341). -/
theorem step_next_of_canClock {s : State} (h : s.canClock = true) : ∃ t, step s = .next t := by
  obtain ⟨u, hu⟩ := cpuClock_next (tickPpu s)
  unfold step clock
  rw [if_neg (by simp [h])]
  dsimp only
  rw [hu]
  split_ifs <;> exact ⟨_, rfl⟩

/-- Settles O33: `canClock` is the condition stated, and decides between the refusal and a next state. -/
theorem clockRefusedExactlyWhenNotReady : Obligations.ClockRefusedExactlyWhenNotReady := by
  intro s
  rw [← Cart.mapper_isSome, ← Bool.and_eq_true]
  change (_ ↔ ¬ s.canClock = true) ∧ _
  cases h : s.canClock with
  | false => simp [step_of_not_canClock h]
  | true =>
    obtain ⟨t, ht⟩ := step_next_of_canClock h
    simp [ht]

/-- Settles O30: the NMI test's two cases, the entry being the rules' by `interruptEntry_eq_interrupted`. -/
theorem endOfTickDeliversNmi : Obligations.EndOfTickDeliversNmi := by
  intro s
  refine ⟨fun h => ?_, fun h => ?_⟩
  · rw [endTick, deliverNmi, if_pos h, nmiEntry, interruptEntry_eq_interrupted _ _ (by decide) (by decide)]
    rfl
  · rw [endTick, deliverNmi, h]
    rfl

end Sys2Proof.Machine
end

section
/-! ## The host's calls, the cartridge's load and Reset() (61_system_clock.md R347 to R350, 63_cartridge.md R430 to R435,
70_reset_and_hazards.md R460 to R466) -/

namespace Sys2Proof.Machine

/-! ### The host's calls -/

/-- Frame cells of two columns of a line are one cell only when lines and columns agree (10_state.md R64). -/
theorem frameCell_inj {y y' x x' : Nat} (hx : x < 256) (hx' : x' < 256) :
    256 * y' + x' = y * 256 + x ↔ y' = y ∧ x' = x := by
  omega

/-- Settles O55: the cases of `setController`, and a frame cell read after a write by `frameRead_write`. -/
theorem hostCalls : Obligations.HostCalls := by
  intro port mask s y x c
  refine ⟨fun h => if_pos h, fun h => ?port2, fun h h' => ?noPort, rfl, rfl, fun hok hx y' x' hx' => ?frame⟩
  case port2 => rw [h]; rfl
  case noPort => rw [setController, if_neg h, if_neg h']
  case frame =>
    obtain ⟨-, -, -, -, -, hrising, -⟩ := (memoryOk_iff s).mp hok
    simp only [readFrame, frameRead_write c _ _ hrising, frameCell_inj hx hx']

/-! ### The cartridge's load -/

/-- The bytes of an image that a load takes: `n` of them from `start` on (63_cartridge.md R432). -/
theorem read_ofBytes_slice (image : List Byte) (start : Nat) {n k : Nat} (h : k < n) :
    (Memory.ofBytes 0 ((image.drop start).take n)).read k = image.getD (start + k) 0 := by
  have hread := Memory.read_ofBytes ((image.drop start).take n) 0 k
  rw [Nat.zero_add] at hread
  rw [hread]
  simp [List.getD_eq_getElem?_getD, h, unwrittenByte]

/-- Whether an image holds its header and the body the header announces (63_cartridge.md R432, R434). -/
def imageComplete (image : List Byte) : Prop :=
  16 ≤ image.length ∧
    prgStart image + (imageByte image 4).toNat * 16384 + (imageByte image 5).toNat * 8192 ≤ image.length

/-- The cartridge of a complete image, every field from its bytes (63_cartridge.md R431 to R433). -/
def loadedCart (chrRam : Memory) (image : List Byte) : Cart where
  prg := Memory.ofBytes 0 ((image.drop (prgStart image)).take ((imageByte image 4).toNat * 16384))
  chr := if imageByte image 5 = 0#8 then chrRam
    else Memory.ofBytes 0 ((image.drop (prgStart image + (imageByte image 4).toNat * 16384)).take
      ((imageByte image 5).toNat * 8192))
  mapperId := headerMapperId image
  prgBanks := imageByte image 4
  chrBanks := imageByte image 5
  mirroring := headerMirroring image
  valid := true

/-- A load of a complete image leaves nothing of the cartridge before it. -/
theorem load_of_complete (chrRam : Memory) (c : Cart) {image : List Byte} (h : imageComplete image) :
    c.load chrRam image = loadedCart chrRam image := by
  unfold Cart.load
  dsimp only
  rw [if_neg (Nat.not_lt.mpr h.1), if_neg (Nat.not_lt.mpr h.2)]
  rfl

/-- A load makes the cartridge valid exactly when the image is complete (63_cartridge.md R432, R434). -/
theorem load_valid_iff (chrRam : Memory) (c : Cart) (image : List Byte) :
    (c.load chrRam image).valid = true ↔ imageComplete image := by
  constructor
  · intro h
    unfold Cart.load at h
    dsimp only at h
    split at h
    · cases h
    · split at h
      · cases h
      · exact ⟨Nat.not_lt.mp ‹_›, Nat.not_lt.mp ‹_›⟩
  · intro h
    rw [load_of_complete chrRam c h]
    rfl

/-- The report by the cartridge's mapper (63_cartridge.md R435). -/
theorem Cart.report_eq (c : Cart) :
    c.report = if c.valid = false then .invalidImage
      else if c.mapper = none then .unsupportedMapper c.mapperId c.prgBanks c.chrBanks else .loaded := by
  unfold Cart.report
  cases c.mapper <;> rfl

/-- Settles O53: the load of a complete image field by field, the mapper's condition, and the report. -/
theorem loadCartridgeBuildsTheCartridge : Obligations.LoadCartridgeBuildsTheCartridge := by
  intro image s report t b start prgSize chrSize
  have hvalid : t.cart.valid = true ↔ imageComplete image := load_valid_iff ..
  have hload (h : t.cart.valid = true) : t.cart = loadedCart s.params.memInit.chrRam image :=
    load_of_complete _ _ (hvalid.mp h)
  refine ⟨rfl, hvalid, fun h => ?fields, ?report⟩
  case fields =>
    have hmapper := Cart.mapper_isSome t.cart
    rw [h, eq_self_iff_true, true_and] at hmapper
    rw [hmapper, hload h]
    refine ⟨rfl, rfl, rfl, rfl, fun k hk => read_ofBytes_slice image start hk, fun k hk => ?chr, fun hb => if_pos hb,
      Iff.rfl⟩
    case chr =>
      have hb : b 5 ≠ 0#8 := by
        intro hb
        simp [chrSize, hb] at hk
      exact (congrArg (Memory.read · k) (if_neg hb)).trans (read_ofBytes_slice image (start + prgSize) hk)
  case report =>
    change t.cart.report = _
    rw [Cart.report_eq]
    by_cases h : t.cart.valid = false
    · rw [if_pos h, if_pos h]
    · rw [if_neg h, if_neg h, hload (by simpa using h)]
      rfl

/-! ### Reset() -/

/-- The CPU after Reset(): the registers at their reset values, the PC from the vector (70_reset_and_hazards.md R461). -/
theorem cpuReset_cpu (s : State) :
    (cpuReset s).cpu = {
      a := 0
      x := 0
      y := 0
      sp := 0xFD
      pc := vectorWord s resetVector
      p := 0x20
      cycles := s.params.resetCycles
      scratch := Scratch.reset } := by
  rw [vectorWord, ← wordOfBytes_eq]
  unfold cpuReset
  rw [memReadWord_high s (by decide) (by decide)]

/-- Reset() of a machine with a mapper is not refused (70_reset_and_hazards.md R460, R466). -/
theorem systemReset_of_mapper {s : State} (h : s.cart.mapper.isSome = true) :
    systemReset s = .next { s with
      cpu := (cpuReset s).cpu
      ppu := ppuReset s.ppu
      port1 := Port.reset
      port2 := Port.reset
      tick := 0
      ready := true } := by
  obtain ⟨t, ht⟩ : ∃ t, systemReset s = .next t := ⟨_, if_pos h⟩
  rw [ht, systemReset_eq ht]

/-- Without a valid cartridge there is no mapper (63_cartridge.md R434). -/
theorem Cart.mapper_of_invalid {c : Cart} (h : c.valid = false) : c.mapper = none := by
  simp [Cart.mapper, h]

/-- Settles O54: Reset() of a machine with a mapper, and its two refusals. -/
theorem systemResetSetsEveryRegister : Obligations.SystemResetSetsEveryRegister := by
  intro s
  refine ⟨fun h => ?_, fun h => ?_, fun h hm => ?_⟩
  · rw [systemReset_of_mapper h, cpuReset_cpu]
    rfl
  · simp [systemReset, Cart.mapper_of_invalid h, h]
  · simp [systemReset, hm, h]

/-- The blank cartridge's reset vector is 0x0000 (log entry 2). -/
theorem vectorWord_powerOn (params : Params) : vectorWord (State.powerOn params) resetVector = 0x0000 := rfl

/-- Reset() of the state after the first reset is that state (70_reset_and_hazards.md R460 to R464). -/
theorem systemReset_powerOn (params : Params) : systemReset (State.powerOn params) = .next (State.powerOn params) := by
  rw [systemReset_of_mapper rfl, cpuReset_cpu, vectorWord_powerOn]
  rfl

/-- The state after the first reset is sound when `MEM_INIT` lists bytes of the memories only (10_state.md R64, R65). -/
theorem powerOn_inv {params : Params} (h : memInitOk params.memInit = true) : (State.powerOn params).Inv := by
  have hparts := h
  simp only [memInitOk, Bool.and_eq_true, and_assoc] at hparts
  obtain ⟨hr, hr', hn, hn', hp, hp', ho, ho', -⟩ := hparts
  have hflags : flagOf 0x20 .unused = true ∧ flagOf 0x20 .brk = false := by decide
  exact ⟨(memoryOk_iff _).mpr ⟨⟨hr, hr'⟩, ⟨hn, hn'⟩, ⟨hp, hp'⟩, ⟨ho, ho'⟩, ⟨rfl, h⟩, rfl, rfl⟩,
    (statusOk_iff _).mpr hflags, (ppuOk_iff _).mpr (by simp [State.powerOn, Ppu.reset]), rfl⟩

/-- Settles O58: the state after the first reset is sound, can be clocked and is its own reset. -/
theorem resetMeetsInvariant : Obligations.ResetMeetsInvariant :=
  ⟨rfl, fun params => ⟨powerOn_inv, systemReset_powerOn params, rfl, rfl, rfl, rfl, rfl⟩⟩

end Sys2Proof.Machine
end

section
/-! ## The PPU's register ports (62_ppu.md R360 to R370) -/

namespace Sys2Proof.Machine

theorem vramIncrement_eq (p : Ppu) : vramIncrement p = dataStep p := rfl

/-! ### The bits of the port masks -/

theorem getLsbD_nametableMask (i : Nat) : (0x0C00#16).getLsbD i = decide (i = 10 ∨ i = 11) :=
  getLsbD_of_below (P := fun j => j = 10 ∨ j = 11) (by decide) (by omega) i

theorem getLsbD_scrollMask (i : Nat) : (0x73E0#16).getLsbD i = decide ((5 ≤ i ∧ i < 10) ∨ (12 ≤ i ∧ i < 15)) :=
  getLsbD_of_below (P := fun j => (5 ≤ j ∧ j < 10) ∨ (12 ≤ j ∧ j < 15)) (by decide) (by omega) i

theorem getLsbD_zext16 (b : Byte) (i : Nat) : (zext16 b).getLsbD i = b.getLsbD i := by
  rcases Nat.lt_or_ge i 16 with hi | hi
  · simp [zext16, hi]
  · rw [BitVec.getLsbD_of_ge _ _ hi, BitVec.getLsbD_of_ge _ _ (by omega)]

theorem getLsbD_highByteMask (i : Nat) : (0xFF00#16).getLsbD i = decide (8 ≤ i ∧ i < 16) :=
  getLsbD_of_below (P := fun j => 8 ≤ j ∧ j < 16) (by decide) (by omega) i

/-! ### What the writes make of `t` -/

/-- A Control write moves the nametable bits of `t` (62_ppu.md R361). -/
theorem getLsbD_writeControl_t (p : Ppu) (d : Byte) (i : Nat) :
    (writeControl p d).t.getLsbD i =
      if i = 10 then d.getLsbD 0 else if i = 11 then d.getLsbD 1 else p.t.getLsbD i := by
  have h : (writeControl p d).t.getLsbD i =
      if i = 10 ∨ i = 11 then ((zext16 d &&& 0x03#16) <<< 10).getLsbD i else p.t.getLsbD i := by
    simp [writeControl, getLsbD_replaceBits, getLsbD_nametableMask]
  rw [h, BitVec.getLsbD_shiftLeft, BitVec.getLsbD_and, getLsbD_zext16]
  by_cases h10 : i = 10
  · subst h10
    simp
  · by_cases h11 : i = 11
    · subst h11
      simp
    · simp [h10, h11]

/-- The first Scroll write moves coarse X of `t` (62_ppu.md R366). -/
theorem getLsbD_scrollFirst (t : Word) (d : Byte) (i : Nat) :
    (replaceBits t 0x001F (zext16 (d >>> 3))).getLsbD i = if i < 5 then d.getLsbD (i + 3) else t.getLsbD i := by
  simp [getLsbD_replaceBits, getLsbD_coarseXMask, getLsbD_zext16, Nat.add_comm 3 i]

/-- The second Scroll write moves fine Y and coarse Y of `t` (62_ppu.md R366). -/
theorem getLsbD_scrollSecond (t : Word) (d : Byte) {i : Nat} (hi : i < 16) :
    (replaceBits t 0x73E0#16 (((zext16 d &&& 0x07#16) <<< 12) ||| (zext16 (d >>> 3) <<< 5))).getLsbD i =
      if 5 ≤ i ∧ i < 10 then d.getLsbD (i - 2) else if 12 ≤ i ∧ i < 15 then d.getLsbD (i - 12) else t.getLsbD i := by
  rw [getLsbD_replaceBits, getLsbD_scrollMask, BitVec.getLsbD_or, BitVec.getLsbD_shiftLeft, BitVec.getLsbD_shiftLeft,
    BitVec.getLsbD_and, getLsbD_threeBits, getLsbD_zext16, getLsbD_zext16, BitVec.getLsbD_ushiftRight]
  by_cases hc : 5 ≤ i ∧ i < 10
  · simp [hc, hi, show i < 12 by omega, show ¬ i < 5 by omega, show 3 + (i - 5) = i - 2 by omega]
  · by_cases hf : 12 ≤ i ∧ i < 15
    · have hd : d.getLsbD (3 + (i - 5)) = false := BitVec.getLsbD_of_ge _ _ (by omega)
      simp [hc, hf, hi, hd, show ¬ i < 12 by omega, show i - 12 < 3 by omega]
    · simp [hc, hf]

/-- The first Scroll write (62_ppu.md R366). -/
theorem writeScroll_first {p : Ppu} (h : p.w = false) (d : Byte) :
    writeScroll p d =
      { p with fineX := BitVec.ofNat 3 d.toNat, t := replaceBits p.t 0x001F (zext16 (d >>> 3)), w := true } := if_pos h

/-- The second Scroll write (62_ppu.md R366). -/
theorem writeScroll_second {p : Ppu} (h : p.w = true) (d : Byte) :
    writeScroll p d =
      { p with
        t := replaceBits p.t 0x73E0#16 (((zext16 d &&& 0x07#16) <<< 12) ||| (zext16 (d >>> 3) <<< 5))
        w := false } := if_neg (by simp [h])

/-- The first VRAM address write: the six low bits of the byte become the high byte of `t` (62_ppu.md R367). -/
theorem writeVramAddr_first {p : Ppu} (h : p.w = false) (d : Byte) :
    writeVramAddr p d =
      { p with t := BitVec.ofNat 16 (p.t.toNat % 256 + 256 * (d.toNat % 64)), w := true } := by
  have hlow : (p.t &&& 0x00FF#16).toNat = p.t.toNat % 256 := toNat_and_lowMask p.t (k := 8) rfl
  have hhigh : ((zext16 d &&& 0x3F#16) <<< 8).toNat = 2 ^ 8 * (d.toNat % 64) := by
    rw [BitVec.toNat_shiftLeft, toNat_and_lowMask (zext16 d) (k := 6) rfl, zext16_toNat, Nat.shiftLeft_eq]
    omega
  have ht : p.t &&& 0x00FF#16 ||| (zext16 d &&& 0x3F#16) <<< 8 =
      BitVec.ofNat 16 (p.t.toNat % 256 + 256 * (d.toNat % 64)) := by
    refine BitVec.eq_of_toNat_eq ?_
    rw [BitVec.toNat_or, hlow, hhigh, Nat.lor_comm, ← Nat.two_pow_add_eq_or_of_lt (by omega), BitVec.toNat_ofNat]
    omega
  rw [← ht]
  exact if_pos h

/-- Replacing a word's low byte, as arithmetic (62_ppu.md R367, R383). -/
theorem loadShifter_eq (r : Word) (b : Byte) : loadShifter r b = BitVec.ofNat 16 (r.toNat / 256 * 256 + b.toNat) := by
  have hmask : r &&& 0xFF00#16 = (r >>> 8) <<< 8 := by
    refine BitVec.eq_of_getLsbD_eq fun i hi => ?_
    by_cases h : 8 ≤ i
    · simp [getLsbD_highByteMask, h, hi, show ¬ i < 8 by omega]
    · simp [getLsbD_highByteMask, h, show i < 8 by omega]
  have hhigh : ((r >>> 8) <<< 8).toNat = 2 ^ 8 * (r.toNat / 256) := by
    rw [BitVec.toNat_shiftLeft, BitVec.toNat_ushiftRight, Nat.shiftLeft_eq, Nat.shiftRight_eq_div_pow]
    omega
  have hb := b.isLt
  change r &&& 0xFF00#16 ||| zext16 b = _
  refine BitVec.eq_of_toNat_eq ?_
  rw [hmask, BitVec.toNat_or, hhigh, zext16_toNat, ← Nat.two_pow_add_eq_or_of_lt (by omega), BitVec.toNat_ofNat]
  omega

/-- The second VRAM address write: the byte becomes the low byte of `t`, and `v` follows (62_ppu.md R367). -/
theorem writeVramAddr_second {p : Ppu} (h : p.w = true) (d : Byte) :
    writeVramAddr p d =
      let t' := BitVec.ofNat 16 (p.t.toNat / 256 * 256 + d.toNat)
      { p with t := t', v := t', w := false } := by
  rw [← loadShifter_eq]
  exact if_neg (by simp [h])

/-- Settles O40: the write of each port. -/
theorem ppuPortWrites : Obligations.PpuPortWrites := by
  intro a d s h h' p r
  have hwrite (k : Nat) (hr : r = k) : memWrite a d s =
      { s with cart := (ppuRegWrite s.cart p k d).1, ppu := (ppuRegWrite s.cart p k d).2 } := by
    rw [memWrite_ppu s d h h', ppuPort_eq, ← hr]
  have hscroll (hr : r = 5) : memWrite a d s = { s with ppu := writeScroll p d } := hwrite 5 hr
  have haddr (hr : r = 6) : memWrite a d s = { s with ppu := writeVramAddr p d } := hwrite 6 hr
  refine ⟨fun hr => ⟨_, fun i _ => getLsbD_writeControl_t p d i, hwrite 0 hr⟩, hwrite 1, hwrite 2, hwrite 3, ?oam,
    fun hr hw => ⟨_, fun i _ => getLsbD_scrollFirst p.t d i, ?_⟩,
    fun hr hw => ⟨_, fun i hi => getLsbD_scrollSecond p.t d hi, ?_⟩, fun hr hw => ?_, fun hr hw => ?_, hwrite 7⟩
  case oam =>
    have hnext : p.oamAddr + 1 = BitVec.ofNat 8 (p.oamAddr.toNat + 1) := BitVec.eq_of_toNat_eq (by simp)
    rw [← hnext]
    exact hwrite 4
  · rw [hscroll hr, writeScroll_first hw]
  · rw [hscroll hr, writeScroll_second hw]
  · rw [haddr hr, writeVramAddr_first hw]
  · rw [haddr hr, writeVramAddr_second hw]

/-! ### The reads -/

/-- An access to a PPU address is one to its low 14 bits (20_memory.md R120). -/
theorem ppuRead_ppuAddr (c : Cart) (p : Ppu) (a : Word) : ppuRead c p (ppuAddr a) = ppuRead c p a := by
  have h : ppuAddr (ppuAddr a) = ppuAddr a := by rw [ppuAddr, ppuAddr, BitVec.and_assoc, BitVec.and_self]
  unfold ppuRead
  rw [h]

/-- A VRAM data read: buffered below the palette, at once in it (62_ppu.md R368). -/
theorem readVramData_eq (c : Cart) (p : Ppu) :
    readVramData c p =
      (if 0x3F00 ≤ p.v.toNat % 0x4000 then ppuRead c p p.v else p.dataBuffer,
        { p with dataBuffer := ppuRead c p p.v, v := p.v + dataStep p }) := by
  unfold readVramData
  dsimp only
  rw [ppuRead_ppuAddr, ppuAddr_toNat, vramIncrement_eq]
  split <;> rfl

/-- Settles O41: the read of each port. -/
theorem ppuPortReads : Obligations.PpuPortReads := by
  intro a s h h' p r here
  have hread (k : Nat) (hr : r = k) : memRead a s =
      ((ppuRegRead s.cart p k).1, { s with ppu := (ppuRegRead s.cart p k).2 }) := by
    rw [memRead_ppu s h h', ppuPort_eq, ← hr]
  refine ⟨?none, fun hr => ⟨p.status &&& 0x7F, p.status &&& 0xE0, fun i hi => ?status, fun i hi => ?byte, hread 2 hr⟩,
    hread 4, fun hr => ?data⟩
  case none => rintro (hr | hr | hr | hr | hr) <;> exact hread _ hr
  case status =>
    have hmask : ∀ j < 8, (0x7F#8).getLsbD j = decide (j ≠ 7) := by decide
    simp [hmask i hi, Bool.and_comm]
  case byte =>
    have hmask : ∀ j < 8, (0xE0#8).getLsbD j = decide (5 ≤ j) := by decide
    simp [hmask i hi, Bool.and_comm]
  case data =>
    rw [hread 7 hr, ppuRegRead, readVramData_eq]

end Sys2Proof.Machine
end

section
/-! ## The PPU's clock by its parts (62_ppu.md R371 to R373, R394)

A clock on lines -1 to 239 is the work of the sprite units beside that of the fetches, and neither reads what the other
writes: `fetchLineWork_sameButFetch`. -/

namespace Sys2Proof.Machine

@[simp] theorem onlyIf_true (f : Ppu → Ppu) (p : Ppu) : onlyIf true f p = f p := rfl

@[simp] theorem onlyIf_false (f : Ppu → Ppu) (p : Ppu) : onlyIf false f p = p := rfl

/-! ### The kinds of clock -/

/-- Off the lines that fetch, a clock starts vblank at its one place and counts (62_ppu.md R372, R388). -/
theorem ppuClock_of_not_onFetchLine (c : Cart) {p : Ppu} (h : ¬ OnFetchLine p) :
    ppuClock c p = advance (onlyIf (decide (p.scanline = 241) && decide (p.cycle = 1)) vblankStart p) := by
  have hline : (decide (-1 ≤ p.scanline) && decide (p.scanline ≤ 239)) = false := by
    simpa [OnFetchLine] using h
  have hpixel : (decide (0 ≤ p.scanline) && decide (p.scanline ≤ 239) && decide (1 ≤ p.cycle) &&
      decide (p.cycle ≤ 256)) = false := by
    unfold OnFetchLine at h
    simp only [Bool.and_eq_false_iff, decide_eq_false_iff_not]
    omega
  rw [ppuClock, hline, hpixel]
  rfl

/-- On the lines that fetch, a clock does its fetches and draws its pixel, if any (62_ppu.md R372). -/
theorem ppuClock_of_onFetchLine (c : Cart) {p : Ppu} (h : OnFetchLine p) :
    ppuClock c p = advance (onlyIf (decide (0 ≤ p.scanline) && decide (p.scanline ≤ 239) && decide (1 ≤ p.cycle) &&
      decide (p.cycle ≤ 256)) (composite c) (fetchLineWork c p)) := by
  obtain ⟨hlow, hhigh⟩ := h
  have hvblank : p.scanline ≠ 241 := by omega
  simp [ppuClock, hlow, hhigh, hvblank]

theorem OnPixel.onFetchLine {p : Ppu} (h : OnPixel p) : OnFetchLine p := by
  unfold OnPixel at h
  unfold OnFetchLine
  omega

theorem ppuClock_of_onPixel (c : Cart) {p : Ppu} (h : OnPixel p) :
    ppuClock c p = advance (composite c (fetchLineWork c p)) := by
  obtain ⟨hlow, hhigh, hfirst, hlast⟩ := h
  rw [ppuClock_of_onFetchLine c (OnPixel.onFetchLine ⟨hlow, hhigh, hfirst, hlast⟩)]
  simp [hlow, hhigh, hfirst, hlast]

theorem ppuClock_of_not_onPixel (c : Cart) {p : Ppu} (h : OnFetchLine p) (hpixel : ¬ OnPixel p) :
    ppuClock c p = advance (fetchLineWork c p) := by
  have hb : (decide (0 ≤ p.scanline) && decide (p.scanline ≤ 239) && decide (1 ≤ p.cycle) &&
      decide (p.cycle ≤ 256)) = false := by
    simpa [OnPixel] using hpixel
  rw [ppuClock_of_onFetchLine c h, hb]
  rfl

/-! ### The sprite units beside the fetches -/

/-- `p` with the scroll address, the fetch latches and the shifters of `b`. -/
def Ppu.withFetch (p b : Ppu) : Ppu :=
  { p with
    v := b.v
    bgNextId := b.bgNextId
    bgNextAttr := b.bgNextAttr
    bgNextLo := b.bgNextLo
    bgNextHi := b.bgNextHi
    bgShiftPatLo := b.bgShiftPatLo
    bgShiftPatHi := b.bgShiftPatHi
    bgShiftAttrLo := b.bgShiftAttrLo
    bgShiftAttrHi := b.bgShiftAttrHi }

/-- Two PPUs alike but for the scroll address, the fetch latches and the shifters. -/
def SameButFetch (p q : Ppu) : Prop := p = q.withFetch p

theorem SameButFetch.refl (p : Ppu) : SameButFetch p p := rfl

theorem sameButFetch_of_eq {p q b : Ppu} (h : p = q.withFetch b) : SameButFetch p q := by
  subst h
  rfl

theorem SameButFetch.trans {p q r : Ppu} (h : SameButFetch p q) (h' : SameButFetch q r) : SameButFetch p r :=
  calc
    p = q.withFetch p := h
    _ = (r.withFetch q).withFetch p := congrArg (Ppu.withFetch · p) h'

theorem SameButFetch.onlyIf {p q : Ppu} {b : Bool} {f g : Ppu → Ppu} (h : SameButFetch p q)
    (hf : b = true → SameButFetch (f p) (g q)) : SameButFetch (Machine.onlyIf b f p) (Machine.onlyIf b g q) := by
  cases b with
  | false => exact h
  | true => exact hf rfl

/-- A step that changes the fetch registers only. -/
theorem SameButFetch.onlyIf_left {p q : Ppu} {b : Bool} {f : Ppu → Ppu} (h : SameButFetch p q)
    (hf : b = true → SameButFetch (f p) p) : SameButFetch (Machine.onlyIf b f p) q := by
  cases b with
  | false => exact h
  | true => exact (hf rfl).trans h

/-- The PPU with OAM entry `n` added to its sprite list (62_ppu.md R384). -/
def listEntry (n : Nat) (p : Ppu) : Ppu :=
  { p with
    spriteZeroPossible := p.spriteZeroPossible || decide (n = 0)
    slots := copyEntry p.oam n p.spriteCount p.slots
    spriteCount := p.spriteCount + 1 }

/-- An entry out of range is passed over. -/
theorem scanOam_of_not_inRange {fuel n : Nat} {p : Ppu} (h : inRange p n = false) :
    scanOam (fuel + 1) n p = scanOam fuel (n + 1) p := by
  rw [scanOam, h]
  rfl

/-- An entry in range is listed while the list has room. -/
theorem scanOam_of_inRange {fuel n : Nat} {p : Ppu} (h : inRange p n = true) (h8 : p.spriteCount ≠ 8) :
    scanOam (fuel + 1) n p = scanOam fuel (n + 1) (listEntry n p) := by
  rw [scanOam, if_pos h, if_neg h8]
  rfl

/-- The entry in range after the eighth sets overflow and ends the scan. -/
theorem scanOam_of_overflow {fuel n : Nat} {p : Ppu} (h : inRange p n = true) (h8 : p.spriteCount = 8) :
    scanOam (fuel + 1) n p = { p with status := p.status ||| 0x20 } := by
  rw [scanOam, if_pos h, if_pos h8]

/-- The scan of OAM neither reads nor writes the fetch registers (62_ppu.md R384). -/
theorem scanOam_withFetch (fuel n : Nat) (p b : Ppu) : scanOam fuel n (p.withFetch b) = (scanOam fuel n p).withFetch b := by
  induction fuel generalizing n p with
  | zero => rfl
  | succ fuel ih =>
    have hrange : inRange (p.withFetch b) n = inRange p n := rfl
    cases h : inRange p n with
    | false => rw [scanOam_of_not_inRange h, scanOam_of_not_inRange (hrange.trans h), ih]
    | true =>
      by_cases h8 : p.spriteCount = 8
      · rw [scanOam_of_overflow h h8, scanOam_of_overflow (hrange.trans h) h8]
        rfl
      · rw [scanOam_of_inRange h h8, scanOam_of_inRange (hrange.trans h) h8, ← ih]
        rfl

/-- The PPU at the start of an evaluation: no sprite listed, the shift bytes cleared (62_ppu.md R384). -/
def evalStart (p : Ppu) : Ppu :=
  { p with spriteCount := 0, spriteZeroPossible := false, slots := p.slots.map clearShift }

theorem spriteEval_eq_scan (p : Ppu) : spriteEval p = scanOam 64 0 (evalStart p) := rfl

theorem spriteEval_withFetch (p b : Ppu) : spriteEval (p.withFetch b) = (spriteEval p).withFetch b :=
  scanOam_withFetch 64 0 (evalStart p) b

/-- The sub-phase action, register by register (62_ppu.md R372, R375 to R379, R383). -/
theorem subPhase_fields (c : Cart) (p : Ppu) :
    subPhase c p = { p with
      bgNextId := if phaseOf p = 0 then ppuRead c p (nametableAddr p.v) else p.bgNextId
      bgNextAttr := if phaseOf p = 2 then attributeBits p.v (ppuRead c p (attributeAddr p.v)) else p.bgNextAttr
      bgNextLo := if phaseOf p = 4 then ppuRead c p (patternAddr p) else p.bgNextLo
      bgNextHi := if phaseOf p = 6 then ppuRead c p (patternAddr p + 8) else p.bgNextHi
      bgShiftPatLo := if phaseOf p = 0 then loadShifter p.bgShiftPatLo p.bgNextLo else p.bgShiftPatLo
      bgShiftPatHi := if phaseOf p = 0 then loadShifter p.bgShiftPatHi p.bgNextHi else p.bgShiftPatHi
      bgShiftAttrLo := if phaseOf p = 0 then loadShifter p.bgShiftAttrLo (spreadBit (p.bgNextAttr.getLsbD 0))
        else p.bgShiftAttrLo
      bgShiftAttrHi := if phaseOf p = 0 then loadShifter p.bgShiftAttrHi (spreadBit (p.bgNextAttr.getLsbD 1))
        else p.bgShiftAttrHi
      v := if phaseOf p = 7 ∧ rendering p = true then incX p.v else p.v } := by
  have hlt : phaseOf p < 8 := Nat.mod_lt _ (by decide)
  unfold subPhase
  change (match phaseOf p with | 0 => _ | 2 => _ | 4 => _ | 6 => _ | 7 => _ | _ => _) = _
  generalize phaseOf p = k at hlt
  rcases Nat.lt_succ_iff_lt_or_eq.mp hlt with hlt | rfl
  · interval_cases k <;> rfl
  · by_cases h : rendering p = true <;> simp [h]

/-- The sprite counters of a clock in a fetch window (62_ppu.md R372, R387). -/
def spriteCounters (p : Ppu) : Ppu := onlyIf (decide (0 ≤ p.scanline) && decide (p.cycle ≤ 257)) updateSprites p

/-- The work of a fetch window: the sprite counters beside the shift and the sub-phase (62_ppu.md R372). -/
theorem windowWork_eq (c : Cart) (p : Ppu) :
    windowWork c p = (spriteCounters p).withFetch (subPhase c (shiftBackground p)) := by
  unfold windowWork spriteCounters onlyIf
  simp only [subPhase_fields]
  split <;> rfl

theorem horizontalReload_sameButFetch (p : Ppu) : SameButFetch (horizontalReload p) p := by
  unfold horizontalReload
  have h : SameButFetch (loadBgShifters p) p := rfl
  exact h.onlyIf_left fun _ => rfl

/-- The work of the sprite units at a clock of lines -1 to 239: the pre-render clear, the counters, and at cycle 257 the
next line's list and patterns (62_ppu.md R372, R373). -/
def spriteWork (c : Cart) (p : Ppu) : Ppu :=
  let p₁ := onlyIf (decide (p.scanline = -1) && decide (p.cycle = 1)) preRenderClear p
  let p₂ := onlyIf (inFetchWindow p.cycle) spriteCounters p₁
  onlyIf (decide (p.cycle = 257) && decide (0 ≤ p.scanline)) (fun q => loadSpriteShifters c (spriteEval q)) p₂

theorem loadSpriteShifters_spriteEval_sameButFetch (c : Cart) {p q : Ppu} (h : SameButFetch p q) :
    SameButFetch (loadSpriteShifters c (spriteEval p)) (loadSpriteShifters c (spriteEval q)) := by
  refine sameButFetch_of_eq (b := p) ?_
  conv_lhs => rw [h, spriteEval_withFetch]
  rfl

/-- The work of lines -1 to 239 is that of the sprite units beside that of the fetches (62_ppu.md R372). -/
theorem fetchLineWork_sameButFetch (c : Cart) (p : Ppu) : SameButFetch (fetchLineWork c p) (spriteWork c p) := by
  have hclear := SameButFetch.refl (onlyIf (decide (p.scanline = -1) && decide (p.cycle = 1)) preRenderClear p)
  have hwindow := hclear.onlyIf (b := inFetchWindow p.cycle) fun _ => sameButFetch_of_eq (windowWork_eq c _)
  have hstep := hwindow.onlyIf_left (b := decide (p.cycle = 256) && rendering p) (f := fun q => { q with v := incY q.v })
    fun _ => rfl
  have hreload := hstep.onlyIf_left (b := decide (p.cycle = 257)) fun _ => horizontalReload_sameButFetch _
  have heval := hreload.onlyIf (b := decide (p.cycle = 257) && decide (0 ≤ p.scanline))
    (f := fun q => loadSpriteShifters c (spriteEval q)) (g := fun q => loadSpriteShifters c (spriteEval q))
    fun _ => loadSpriteShifters_spriteEval_sameButFetch c hreload
  exact heval.onlyIf_left (f := fun q => { q with v := transferY q.v q.t }) fun _ => rfl

/-! ### The work of the sprite units, by kind of clock -/

theorem spriteWork_of_clear (c : Cart) {p : Ppu} (h : p.scanline = -1) (h1 : p.cycle = 1) :
    spriteWork c p = preRenderClear p := by
  simp [spriteWork, inFetchWindow, h, h1]

theorem spriteWork_of_counting (c : Cart) {p : Ppu} (hline : 0 ≤ p.scanline) (h2 : 2 ≤ p.cycle) (h256 : p.cycle ≤ 256) :
    spriteWork c p = updateSprites p := by
  have h257 : p.cycle ≤ 257 := by omega
  have hclear : p.cycle ≠ 1 := by omega
  have heval : p.cycle ≠ 257 := by omega
  simp [spriteWork, spriteCounters, inFetchWindow, hline, h2, h257, hclear, heval]

theorem spriteWork_of_cycle257 (c : Cart) {p : Ppu} (hline : 0 ≤ p.scanline) (h : p.cycle = 257) :
    spriteWork c p = loadSpriteShifters c (spriteEval (updateSprites p)) := by
  simp [spriteWork, spriteCounters, inFetchWindow, hline, h]

theorem spriteWork_of_idle (c : Cart) {p : Ppu} (hcount : ¬ (0 ≤ p.scanline ∧ 2 ≤ p.cycle ∧ p.cycle ≤ 257))
    (hclear : ¬ (p.scanline = -1 ∧ p.cycle = 1)) : spriteWork c p = p := by
  have hclear' : (decide (p.scanline = -1) && decide (p.cycle = 1)) = false := by simpa using hclear
  have heval : (decide (p.cycle = 257) && decide (0 ≤ p.scanline)) = false := by
    simp only [Bool.and_eq_false_iff, decide_eq_false_iff_not]
    omega
  have hcounters : inFetchWindow p.cycle = true → spriteCounters p = p := by
    intro h
    have h' : (decide (0 ≤ p.scanline) && decide (p.cycle ≤ 257)) = false := by
      simp only [inFetchWindow, Bool.or_eq_true, Bool.and_eq_true, decide_eq_true_eq] at h
      simp only [Bool.and_eq_false_iff, decide_eq_false_iff_not]
      omega
    rw [spriteCounters, h', onlyIf_false]
  rw [spriteWork, hclear', heval]
  cases h : inFetchWindow p.cycle with
  | false => rfl
  | true => exact hcounters h

/-- What the sprite units can do at a clock of lines -1 to 239. -/
theorem spriteWork_cases (c : Cart) (p : Ppu) :
    (p.scanline = -1 ∧ p.cycle = 1 ∧ spriteWork c p = preRenderClear p) ∨
    (0 ≤ p.scanline ∧ 2 ≤ p.cycle ∧ p.cycle ≤ 256 ∧ spriteWork c p = updateSprites p) ∨
    (0 ≤ p.scanline ∧ p.cycle = 257 ∧ spriteWork c p = loadSpriteShifters c (spriteEval (updateSprites p))) ∨
    spriteWork c p = p := by
  by_cases hclear : p.scanline = -1 ∧ p.cycle = 1
  · exact .inl ⟨hclear.1, hclear.2, spriteWork_of_clear c hclear.1 hclear.2⟩
  · by_cases hcount : 0 ≤ p.scanline ∧ 2 ≤ p.cycle ∧ p.cycle ≤ 257
    · obtain ⟨hline, h2, h257⟩ := hcount
      rcases Nat.lt_or_eq_of_le h257 with h | h
      · exact .inr (.inl ⟨hline, h2, Nat.le_of_lt_succ h, spriteWork_of_counting c hline h2 (Nat.le_of_lt_succ h)⟩)
      · exact .inr (.inr (.inl ⟨hline, h, spriteWork_of_cycle257 c hline h⟩))
    · exact .inr (.inr (.inr (spriteWork_of_idle c hcount hclear)))

/-- The sprite units change the list, its count, the sprite-zero note and Status (62_ppu.md R373, R384 to R387). -/
theorem spriteWork_eq (c : Cart) (p : Ppu) :
    spriteWork c p = { p with
      spriteCount := (spriteWork c p).spriteCount
      spriteZeroPossible := (spriteWork c p).spriteZeroPossible
      slots := (spriteWork c p).slots
      status := (spriteWork c p).status } := by
  rcases spriteWork_cases c p with ⟨-, -, h⟩ | ⟨-, -, -, h⟩ | ⟨-, -, h⟩ | h <;> rw [h]
  · rfl
  · rfl
  · rw [spriteEval_eq]
    rfl

/-- The evaluation can only set overflow of Status (62_ppu.md R384). -/
theorem spriteEval_status (p : Ppu) : (spriteEval p).status = p.status ∨ (spriteEval p).status = p.status ||| 0x20 :=
  (scanOam_bounds 64 0 (evalStart p) (Nat.zero_le 8)).2.2

/-- Of Status the sprite units clear the three flags, set overflow, or change nothing (62_ppu.md R373, R384). -/
theorem spriteWork_status (c : Cart) (p : Ppu) :
    (spriteWork c p).status = p.status &&& 0x1F ∨ (spriteWork c p).status = p.status ∨
      (spriteWork c p).status = p.status ||| 0x20 := by
  rcases spriteWork_cases c p with ⟨-, -, h⟩ | ⟨-, -, -, h⟩ | ⟨-, -, h⟩ | h <;> rw [h]
  · exact .inl rfl
  · exact .inr (.inl rfl)
  · exact .inr (spriteEval_status (updateSprites p))
  · exact .inr (.inl rfl)

/-! ### The work of lines -1 to 239, by kind of clock -/

theorem inFetchWindow_iff (p : Ppu) : inFetchWindow p.cycle = true ↔ inWindow p := by
  simp [inFetchWindow, inWindow]

/-- Outside a window only the pre-render line's clear and vertical copy work (62_ppu.md R372, R373, R382). -/
theorem fetchLineWork_of_not_inWindow (c : Cart) {p : Ppu} (h : ¬ inWindow p) :
    fetchLineWork c p =
      onlyIf (decide (p.scanline = -1) && decide (280 ≤ p.cycle) && decide (p.cycle ≤ 304) && rendering p)
        (fun q => { q with v := transferY q.v q.t })
        (onlyIf (decide (p.scanline = -1) && decide (p.cycle = 1)) preRenderClear p) := by
  have hwindow : inFetchWindow p.cycle = false := Bool.eq_false_of_not_eq_true (mt (inFetchWindow_iff p).mp h)
  have h256 : p.cycle ≠ 256 := by unfold inWindow at h; omega
  have h257 : p.cycle ≠ 257 := by unfold inWindow at h; omega
  simp [fetchLineWork, hwindow, h256, h257]

/-- In a window before its cycle 257 the window's work is all, but for the vertical step at cycle 256 (62_ppu.md R372, R380). -/
theorem fetchLineWork_of_inWindow (c : Cart) {p : Ppu} (h : inWindow p) (h257 : p.cycle ≠ 257) :
    fetchLineWork c p =
      onlyIf (decide (p.cycle = 256) && rendering p) (fun q => { q with v := incY q.v }) (windowWork c p) := by
  have hwindow : inFetchWindow p.cycle = true := (inFetchWindow_iff p).mpr h
  have hclear : p.cycle ≠ 1 := by unfold inWindow at h; omega
  have hcopy : (decide (p.scanline = -1) && decide (280 ≤ p.cycle) && decide (p.cycle ≤ 304)) = false := by
    unfold inWindow at h
    simp only [Bool.and_eq_false_iff, decide_eq_false_iff_not]
    omega
  simp [fetchLineWork, hwindow, h257, hclear, hcopy]

/-- Cycle 257: the window's work, the shifters and the horizontal copy, and on visible lines the next line's sprites
(62_ppu.md R372, R381, R384, R385). -/
theorem fetchLineWork_of_cycle257 (c : Cart) {p : Ppu} (h : p.cycle = 257) :
    fetchLineWork c p =
      onlyIf (decide (0 ≤ p.scanline)) (fun q => loadSpriteShifters c (spriteEval q))
        (horizontalReload (windowWork c p)) := by
  simp [fetchLineWork, h, inFetchWindow]

end Sys2Proof.Machine
end

section
/-! ## The fetches of a PPU clock: the scroll address and the background (62_ppu.md R374 to R383) -/

namespace Sys2Proof.Machine

/-! ### The fetch registers of a clock -/

/-- The scroll address, the fetch latches and the shifters alone, every other register blank. -/
def Ppu.fetch (p : Ppu) : Ppu := Ppu.reset.withFetch p

theorem Ppu.v_of_fetch {p q : Ppu} (h : p.fetch = q.fetch) : p.v = q.v := (congrArg Ppu.v h :)

theorem composite_fetch (c : Cart) (p : Ppu) : (composite c p).fetch = p.fetch := by
  rw [(composite_eq c p).1]
  rfl

theorem advance_fetch (p : Ppu) : (advance p).fetch = p.fetch := by
  rw [advance_eq]
  rfl

theorem loadSpriteShifters_spriteEval_fetch (c : Cart) (p : Ppu) :
    (loadSpriteShifters c (spriteEval p)).fetch = p.fetch := by
  rw [spriteEval_eq]
  rfl

/-- On the lines that fetch, the fetch registers are those the fetches leave. -/
theorem ppuClock_fetch_of_onFetchLine (c : Cart) {p : Ppu} (h : OnFetchLine p) :
    (ppuClock c p).fetch = (fetchLineWork c p).fetch := by
  rw [ppuClock_of_onFetchLine c h, advance_fetch]
  exact onlyIf_keeps Ppu.fetch fun _ => composite_fetch c _

/-- On the other lines no clock touches them. -/
theorem ppuClock_fetch_of_not_onFetchLine (c : Cart) {p : Ppu} (h : ¬ OnFetchLine p) : (ppuClock c p).fetch = p.fetch := by
  rw [ppuClock_of_not_onFetchLine c h, advance_fetch]
  exact onlyIf_keeps Ppu.fetch fun _ => rfl

/-- At cycle 257 the fetch registers are those of the window's work and the reload (62_ppu.md R381). -/
theorem fetchLineWork_fetch_of_cycle257 (c : Cart) {p : Ppu} (h : p.cycle = 257) :
    (fetchLineWork c p).fetch = (horizontalReload (windowWork c p)).fetch := by
  rw [fetchLineWork_of_cycle257 c h]
  exact onlyIf_keeps Ppu.fetch fun _ => loadSpriteShifters_spriteEval_fetch c _

/-! ### The scroll address -/

theorem rendering_iff (p : Ppu) : rendering p = true ↔ Renders p := by
  simp [rendering, Renders]

theorem windowWork_v (c : Cart) (p : Ppu) :
    (windowWork c p).v = if phaseOf p = 7 ∧ rendering p = true then incX p.v else p.v := by
  rw [windowWork_eq, subPhase_fields]
  rfl

theorem windowWork_rendering (c : Cart) (p : Ppu) : rendering (windowWork c p) = rendering p := by
  rw [windowWork_eq]
  unfold spriteCounters onlyIf
  split <;> rfl

/-- Outside a window only the pre-render line's vertical copy moves `v` (62_ppu.md R382). -/
theorem ppuClock_v_of_not_inWindow (c : Cart) {p : Ppu} (h : OnFetchLine p) (hw : ¬ inWindow p) :
    (ppuClock c p).v =
      if (p.scanline = -1 ∧ 280 ≤ p.cycle ∧ p.cycle ≤ 304) ∧ rendering p = true then transferY p.v p.t else p.v := by
  have hclear : let q := onlyIf (decide (p.scanline = -1) && decide (p.cycle = 1)) preRenderClear p
      (q.v, q.t) = (p.v, p.t) := onlyIf_keeps (fun q => (q.v, q.t)) fun _ => rfl
  obtain ⟨hv, ht⟩ := Prod.mk.inj hclear
  rw [Ppu.v_of_fetch (ppuClock_fetch_of_onFetchLine c h), fetchLineWork_of_not_inWindow c hw]
  generalize onlyIf (decide (p.scanline = -1) && decide (p.cycle = 1)) preRenderClear p = q at hv ht
  rw [← hv, ← ht, onlyIf]
  simp only [Bool.and_eq_true, decide_eq_true_eq, and_assoc]
  split <;> rfl

/-- In a window `v` moves one tile right at sub-phase 7, and at cycle 256 one row down too (62_ppu.md R379, R380). -/
theorem ppuClock_v_of_inWindow (c : Cart) {p : Ppu} (h : OnFetchLine p) (hw : inWindow p) (h257 : p.cycle ≠ 257) :
    (ppuClock c p).v =
      if p.cycle = 256 ∧ rendering p = true then incY (windowWork c p).v else (windowWork c p).v := by
  rw [Ppu.v_of_fetch (ppuClock_fetch_of_onFetchLine c h), fetchLineWork_of_inWindow c hw h257, onlyIf]
  simp only [Bool.and_eq_true, decide_eq_true_eq]
  split <;> rfl

/-- At cycle 257 `v` takes its horizontal part from `t` (62_ppu.md R381). -/
theorem ppuClock_v_of_cycle257 (c : Cart) {p : Ppu} (h : OnFetchLine p) (h257 : p.cycle = 257) :
    (ppuClock c p).v = if rendering p = true then transferX p.v p.t else p.v := by
  have hphase : phaseOf p ≠ 7 := by simp [phaseOf, h257]
  have hv : (windowWork c p).v = p.v := by simp [windowWork_v, hphase]
  have ht : (windowWork c p).t = p.t := congrArg (fun q => q.2.2.1) (windowWork_portSide c p)
  rw [Ppu.v_of_fetch ((ppuClock_fetch_of_onFetchLine c h).trans (fetchLineWork_fetch_of_cycle257 c h257)),
    horizontalReload, windowWork_rendering, ← hv, ← ht, onlyIf]
  split <;> rfl

/-- Settles O44: `v` by the kind of clock, and the port side as `ppuClock_portSide` has it. -/
theorem clockMovesTheScroll : Obligations.ClockMovesTheScroll := by
  intro c p
  have hside := ppuClock_portSide c p
  simp only [Ppu.portSide, Prod.mk.injEq] at hside
  obtain ⟨hctrl, hmask, ht, hfine, hw, hbuffer, haddr, hnametable, hpalette, hoam⟩ := hside
  refine ⟨fun h => ?still, fun hline hr => ?moves, ht, hctrl, hmask, hfine, hw, hbuffer, haddr, hnametable, hpalette, hoam⟩
  case still =>
    by_cases hline : OnFetchLine p
    · have hr : ¬ rendering p = true := fun hr => h ⟨hline, (rendering_iff p).mp hr⟩
      by_cases h257 : p.cycle = 257
      · rw [ppuClock_v_of_cycle257 c hline h257, if_neg hr]
      · by_cases hwin : inWindow p
        · simp [ppuClock_v_of_inWindow c hline hwin h257, windowWork_v, hr]
        · simp [ppuClock_v_of_not_inWindow c hline hwin, hr]
    · exact Ppu.v_of_fetch (ppuClock_fetch_of_not_onFetchLine c hline)
  case moves =>
    have hr' : rendering p = true := (rendering_iff p).mpr hr
    refine ⟨fun hwin h7 h256 => ?_, fun h256 => ?_, fun h257 => ?_, fun hpre h280 h304 => ?_, fun hinc h257 hcopy => ?_⟩
    · have h257 : p.cycle ≠ 257 := by rintro h; simp [phaseOf, h] at h7
      simp [ppuClock_v_of_inWindow c hline hwin h257, windowWork_v, h256, h7, hr']
    · have hwin : inWindow p := by unfold inWindow; omega
      have h7 : phaseOf p = 7 := by simp [phaseOf, h256]
      simp [ppuClock_v_of_inWindow c hline hwin (by omega), windowWork_v, h256, h7, hr']
    · rw [ppuClock_v_of_cycle257 c hline h257, if_pos hr']
    · have hwin : ¬ inWindow p := by unfold inWindow; omega
      rw [ppuClock_v_of_not_inWindow c hline hwin, if_pos ⟨⟨hpre, h280, h304⟩, hr'⟩]
    · by_cases hwin : inWindow p
      · have h7 : phaseOf p ≠ 7 := fun h7 => hinc ⟨hwin, h7⟩
        have h256 : p.cycle ≠ 256 := by rintro h; simp [phaseOf, h] at h7
        simp [ppuClock_v_of_inWindow c hline hwin h257, windowWork_v, h256, h7]
      · rw [ppuClock_v_of_not_inWindow c hline hwin, if_neg fun h => hcopy h.1]

/-! ### The background shifters and latches -/

/-- The fetch latches and the shifters alone, every other register blank. -/
def Ppu.background (p : Ppu) : Ppu := { p.fetch with v := 0 }

theorem Ppu.background_of_fetch {p q : Ppu} (h : p.fetch = q.fetch) : p.background = q.background :=
  congrArg (fun r : Ppu => { r with v := 0 }) h

/-- Replacing the low byte twice by one byte is replacing it once. -/
theorem loadShifter_loadShifter (r : Word) (b : Byte) : loadShifter (loadShifter r b) b = loadShifter r b := by
  have hb := b.isLt
  refine BitVec.eq_of_toNat_eq ?_
  simp only [loadShifter_eq, BitVec.toNat_ofNat]
  omega

/-- At sub-phase 0 the shifters are loaded, so the load at cycle 257 finds them so (62_ppu.md R372, R383). -/
theorem loadBgShifters_subPhase (c : Cart) {p : Ppu} (h : phaseOf p = 0) :
    loadBgShifters (subPhase c p) = subPhase c p := by
  rw [subPhase_fields]
  simp [loadBgShifters, h, loadShifter_loadShifter]

theorem horizontalReload_background (p : Ppu) : (horizontalReload p).background = (loadBgShifters p).background :=
  onlyIf_keeps Ppu.background fun _ => rfl

/-- In a window the latches and shifters are shifted, then work their sub-phase (62_ppu.md R372, R374). -/
theorem ppuClock_background_of_inWindow (c : Cart) {p : Ppu} (h : OnFetchLine p) (hw : inWindow p) :
    (ppuClock c p).background = (subPhase c (shiftBackground p)).background := by
  have hwindow : (windowWork c p).background = (subPhase c (shiftBackground p)).background := by
    rw [windowWork_eq]
    rfl
  by_cases h257 : p.cycle = 257
  · have hphase : phaseOf (shiftBackground p) = 0 := by simp [phaseOf, shiftBackground, h257]
    calc (ppuClock c p).background
      _ = (horizontalReload (windowWork c p)).background :=
        Ppu.background_of_fetch ((ppuClock_fetch_of_onFetchLine c h).trans (fetchLineWork_fetch_of_cycle257 c h257))
      _ = (loadBgShifters (windowWork c p)).background := horizontalReload_background _
      _ = (loadBgShifters (subPhase c (shiftBackground p))).background := by
        rw [windowWork_eq]
        rfl
      _ = (subPhase c (shiftBackground p)).background := by rw [loadBgShifters_subPhase c hphase]
  · rw [Ppu.background_of_fetch (ppuClock_fetch_of_onFetchLine c h), fetchLineWork_of_inWindow c hw h257, ← hwindow]
    exact onlyIf_keeps Ppu.background fun _ => rfl

/-- Outside the windows, and off the lines that fetch, they stay (62_ppu.md R372, R396). -/
theorem ppuClock_background_of_not_inWindow (c : Cart) {p : Ppu} (h : ¬ (OnFetchLine p ∧ inWindow p)) :
    (ppuClock c p).background = p.background := by
  by_cases hline : OnFetchLine p
  · rw [Ppu.background_of_fetch (ppuClock_fetch_of_onFetchLine c hline),
      fetchLineWork_of_not_inWindow c fun hw => h ⟨hline, hw⟩]
    exact (onlyIf_keeps Ppu.background fun _ => rfl).trans (onlyIf_keeps Ppu.background fun _ => rfl)
  · exact Ppu.background_of_fetch (ppuClock_fetch_of_not_onFetchLine c hline)

/-! ### The addresses and bits as the rules give them -/

/-- Numbers without a bit in common are added by their bits. -/
theorem or_eq_add_of_dvd {x y k : Nat} (hx : 2 ^ k ∣ x) (hy : y < 2 ^ k) : x ||| y = x + y := by
  obtain ⟨m, rfl⟩ := hx
  exact (Nat.two_pow_add_eq_or_of_lt hy m).symm

/-- A field of `k` bits from bit `j` on, in its place. -/
theorem toNat_and_field (a : Word) {mask : Word} {k j : Nat} (h : mask.toNat = (2 ^ k - 1) * 2 ^ j) :
    (a &&& mask).toNat = a.toNat / 2 ^ j % 2 ^ k * 2 ^ j := by
  rw [BitVec.toNat_and, h]
  refine Nat.eq_of_testBit_eq fun i => ?_
  simp only [Nat.testBit_and, Nat.testBit_mul_two_pow, Nat.testBit_two_pow_sub_one, Nat.testBit_mod_two_pow,
    Nat.testBit_div_two_pow]
  by_cases hi : j ≤ i
  · simp [hi, Bool.and_comm]
  · simp [hi]

/-- The address of the nametable fetch (62_ppu.md R375). -/
theorem nametableAddr_eq (v : Word) : nametableAddr v = BitVec.ofNat 16 (0x2000 + v.toNat % 4096) := by
  have hlow : (v &&& 0x0FFF#16).toNat = v.toNat % 4096 := toNat_and_lowMask v (k := 12) rfl
  change 0x2000#16 ||| (v &&& 0x0FFF#16) = _
  refine BitVec.eq_of_toNat_eq ?_
  rw [BitVec.toNat_or, hlow, BitVec.toNat_ofNat, BitVec.toNat_ofNat, or_eq_add_of_dvd (k := 13) (by decide) (by omega)]
  omega

/-- The address of the palette-number fetch (62_ppu.md R376). -/
theorem attributeAddr_eq (v : Word) :
    attributeAddr v = BitVec.ofNat 16
      (0x23C0 + v.toNat / 1024 % 4 * 1024 + v.toNat / 32 % 32 / 4 * 8 + v.toNat % 32 / 4) := by
  have hbank : (v &&& 0x0C00#16).toNat = v.toNat / 1024 % 4 * 1024 := toNat_and_field v (k := 2) (j := 10) rfl
  have hrow : ((coarseY v >>> 2) <<< 3).toNat = v.toNat / 32 % 32 / 4 * 8 := by
    rw [BitVec.toNat_shiftLeft, BitVec.toNat_ushiftRight, coarseY_toNat, Nat.shiftLeft_eq, Nat.shiftRight_eq_div_pow]
    omega
  have hcolumn : (coarseX v >>> 2).toNat = v.toNat % 32 / 4 := by
    rw [BitVec.toNat_ushiftRight, coarseX_toNat, Nat.shiftRight_eq_div_pow]
  have hbase : 0x23C0 ||| v.toNat / 1024 % 4 * 1024 = 0x23C0 + v.toNat / 1024 % 4 * 1024 := by
    have hlt : v.toNat / 1024 % 4 < 4 := Nat.mod_lt _ (by decide)
    generalize v.toNat / 1024 % 4 = q at hlt
    interval_cases q <;> rfl
  have hrows : 0x23C0 + v.toNat / 1024 % 4 * 1024 ||| v.toNat / 32 % 32 / 4 * 8 =
      0x23C0 + v.toNat / 1024 % 4 * 1024 + v.toNat / 32 % 32 / 4 * 8 := or_eq_add_of_dvd (k := 6) (by omega) (by omega)
  change 0x23C0#16 ||| (v &&& 0x0C00#16) ||| ((coarseY v >>> 2) <<< 3) ||| (coarseX v >>> 2) = _
  refine BitVec.eq_of_toNat_eq ?_
  rw [BitVec.toNat_or, BitVec.toNat_or, BitVec.toNat_or, hbank, hrow, hcolumn, BitVec.toNat_ofNat, BitVec.toNat_ofNat,
    hbase, hrows, or_eq_add_of_dvd (k := 3) (by omega) (by omega)]
  omega

/-- The two bits of a palette-number byte for the tile's quadrant (62_ppu.md R376). -/
theorem attributeBits_eq (v : Word) (b : Byte) :
    attributeBits v b = (b >>> (4 * (v.toNat / 32 % 32 / 2 % 2) + 2 * (v.toNat % 32 / 2 % 2))) &&& 0x03 := by
  have hy : (coarseY v).getLsbD 1 = decide (v.toNat / 32 % 32 / 2 % 2 = 1) := by
    rw [← coarseY_toNat]
    exact Nat.testBit_eq_decide_div_mod_eq
  have hx : (coarseX v).getLsbD 1 = decide (v.toNat % 32 / 2 % 2 = 1) := by
    rw [← coarseX_toNat]
    exact Nat.testBit_eq_decide_div_mod_eq
  rw [attributeBits, hy, hx]
  rcases Nat.mod_two_eq_zero_or_one (v.toNat / 32 % 32 / 2) with h | h <;>
    rcases Nat.mod_two_eq_zero_or_one (v.toNat % 32 / 2) with h' | h' <;>
    simp [h, h', ← BitVec.shiftRight_add]

/-- The address of the low pattern byte (62_ppu.md R377). -/
theorem patternAddr_eq (p : Ppu) :
    patternAddr p = BitVec.ofNat 16
      ((p.ctrl.getLsbD 4).toNat * 4096 + p.bgNextId.toNat * 16 + p.v.toNat / 4096 % 8) := by
  have hid := p.bgNextId.isLt
  have htile : (zext16 p.bgNextId <<< 4).toNat = p.bgNextId.toNat * 16 := by
    rw [BitVec.toNat_shiftLeft, zext16_toNat, Nat.shiftLeft_eq]
    omega
  refine BitVec.eq_of_toNat_eq ?_
  rw [patternAddr, BitVec.toNat_add, BitVec.toNat_add, htile, fineY_toNat, BitVec.toNat_ofNat]
  cases p.ctrl.getLsbD 4 <;> simp

/-- A shifter after a clock of a window, as arithmetic (62_ppu.md R374, R383). -/
theorem shifterAfter_eq (p : Ppu) (r : Word) (b : Byte) :
    (if phaseOf p = 0 then loadShifter (r <<< 1) b else r <<< 1) = shifterAfter p r b := by
  have hshift : r <<< 1 = BitVec.ofNat 16 (r.toNat * 2) := by
    refine BitVec.eq_of_toNat_eq ?_
    rw [BitVec.toNat_shiftLeft, BitVec.toNat_ofNat, Nat.shiftLeft_eq]
  have hload : loadShifter (r <<< 1) b = BitVec.ofNat 16 (r.toNat * 2 / 256 * 256 % 65536 + b.toNat) := by
    rw [loadShifter_eq, hshift, BitVec.toNat_ofNat]
    congr 2
    omega
  rw [shifterAfter, hload, hshift]

/-- Settles O45: the sub-phase action on the shifted registers, each in the rules' terms. -/
theorem backgroundPipeline : Obligations.BackgroundPipeline := by
  intro c p n cx cy row
  refine ⟨fun hline hwin => ?moves, fun h => ?stays⟩
  case moves =>
    have hb : n.background = (subPhase c (shiftBackground p)).background := ppuClock_background_of_inWindow c hline hwin
    rw [subPhase_fields] at hb
    refine ⟨?_, ?_, ?_, ?_, ?_, ?_, ?_, ?_⟩
    · exact (congrArg Ppu.bgShiftPatLo hb :).trans (shifterAfter_eq p _ _)
    · exact (congrArg Ppu.bgShiftPatHi hb :).trans (shifterAfter_eq p _ _)
    · exact (congrArg Ppu.bgShiftAttrLo hb :).trans (shifterAfter_eq p _ _)
    · exact (congrArg Ppu.bgShiftAttrHi hb :).trans (shifterAfter_eq p _ _)
    · rw [← nametableAddr_eq]
      exact (congrArg Ppu.bgNextId hb :)
    · rw [← attributeAddr_eq, ← attributeBits_eq]
      exact (congrArg Ppu.bgNextAttr hb :)
    · rw [← patternAddr_eq]
      exact (congrArg Ppu.bgNextLo hb :)
    · rw [BitVec.ofNat_add, ← patternAddr_eq]
      exact (congrArg Ppu.bgNextHi hb :)
  case stays =>
    have hb : n.background = p.background := ppuClock_background_of_not_inWindow c h
    simp only [Ppu.background, Ppu.fetch, Ppu.withFetch, Ppu.mk.injEq, true_and, and_true] at hb
    obtain ⟨hid, hattr, hlo, hhi, hpatLo, hpatHi, hattrLo, hattrHi⟩ := hb
    exact ⟨hpatLo, hpatHi, hattrLo, hattrHi, hid, hattr, hlo, hhi⟩

end Sys2Proof.Machine
end

section
/-! ## What a PPU clock does to the counters, the flags and the sprite list (62_ppu.md R373, R384 to R388, R394) -/

namespace Sys2Proof.Machine

/-! ### The counters -/

/-- The counters alone. -/
def Ppu.counters (p : Ppu) : Int × Nat × Bool := (p.scanline, p.cycle, p.frameComplete)

theorem composite_counters (c : Cart) (p : Ppu) : (composite c p).counters = p.counters := by
  rw [(composite_eq c p).1]
  rfl

theorem fetchLineWork_counters (c : Cart) (p : Ppu) : (fetchLineWork c p).counters = p.counters := by
  rw [fetchLineWork_sameButFetch, spriteWork_eq]
  rfl

/-- The counters' step reads and moves the counters alone (62_ppu.md R394). -/
theorem advance_counters {p q : Ppu} (h : p.counters = q.counters) : (advance p).counters = (advance q).counters := by
  simp only [Ppu.counters, Prod.mk.injEq] at h
  obtain ⟨hline, hcycle, hframe⟩ := h
  unfold advance
  rw [hline, hcycle]
  split_ifs <;> simp [Ppu.counters, hframe]

theorem ppuClock_counters (c : Cart) (p : Ppu) : (ppuClock c p).counters = (advance p).counters :=
  advance_counters <|
    (onlyIf_keeps Ppu.counters fun _ => composite_counters c _).trans <|
    (onlyIf_keeps Ppu.counters fun _ => rfl).trans (onlyIf_keeps Ppu.counters fun _ => fetchLineWork_counters c p)

/-- One step of the counters is one position in the frame; the wrap sets `frame_complete` (62_ppu.md R394). -/
theorem advance_framePosition {p : Ppu} (h : CountersOk p) :
    CountersOk (advance p) ∧ framePosition (advance p) = (framePosition p + 1) % 89342 ∧
      ((advance p).frameComplete = true ↔ p.frameComplete = true ∨ framePosition p + 1 = 89342) := by
  obtain ⟨hlow, hhigh, hcycle⟩ := h
  unfold advance CountersOk framePosition
  split
  · refine ⟨⟨hlow, hhigh, by simp only; omega⟩, by simp only; omega, ?_⟩
    simp only [iff_self_or]
    omega
  · split
    · refine ⟨by simp only; omega, by simp only; omega, ?_⟩
      simp only [iff_self_or]
      omega
    · refine ⟨by simp only; omega, by simp only; omega, ?_⟩
      simp only [true_iff]
      omega

theorem ppuClock_framePosition (c : Cart) {p : Ppu} (h : CountersOk p) :
    CountersOk (ppuClock c p) ∧ framePosition (ppuClock c p) = (framePosition p + 1) % 89342 ∧
      ((ppuClock c p).frameComplete = true ↔ p.frameComplete = true ∨ framePosition p + 1 = 89342) := by
  have hstep := advance_framePosition h
  have hcounters := ppuClock_counters c p
  simp only [Ppu.counters, Prod.mk.injEq] at hcounters
  obtain ⟨hline, hcycle, hframe⟩ := hcounters
  simpa only [CountersOk, framePosition, hline, hcycle, hframe] using hstep

/-- Settles O52, by induction on the number of clocks. -/
theorem frameIs89342Clocks : Obligations.FrameIs89342Clocks := by
  intro c p k h
  induction k with
  | zero =>
    have hlt : framePosition p < 89342 := by
      obtain ⟨hlow, hhigh, hcycle⟩ := h
      unfold framePosition
      omega
    have hwrap : ¬ 89342 ≤ framePosition p := Nat.not_le.mpr hlt
    simp only [Function.iterate_zero, id_eq, Nat.add_zero, Nat.mod_eq_of_lt hlt, hwrap, or_false, and_self, and_true]
    exact h
  | succ k ih =>
    obtain ⟨hok, hpos, hframe⟩ := ih
    obtain ⟨hok', hpos', hframe'⟩ := ppuClock_framePosition c hok
    rw [Function.iterate_succ_apply']
    refine ⟨hok', ?_, ?_⟩
    · rw [hpos', hpos]
      omega
    · rw [hframe', hframe, hpos, or_assoc]
      refine or_congr_right ?_
      omega

/-! ### Status, the NMI request and the sprite-zero pixel note -/

/-- Status, the NMI request and the sprite-zero pixel note alone. -/
def Ppu.flags (p : Ppu) : Byte × Bool × Bool := (p.status, p.nmiRequest, p.spriteZeroRendering)

theorem advance_flags (p : Ppu) : (advance p).flags = p.flags := by
  rw [advance_eq]
  rfl

theorem fetchLineWork_flags (c : Cart) (p : Ppu) :
    (fetchLineWork c p).flags = ((spriteWork c p).status, p.nmiRequest, p.spriteZeroRendering) := by
  rw [fetchLineWork_sameButFetch, spriteWork_eq]
  rfl

theorem ppuClock_flags_of_not_onPixel (c : Cart) {p : Ppu} (h : OnFetchLine p) (hpixel : ¬ OnPixel p) :
    (ppuClock c p).flags = ((spriteWork c p).status, p.nmiRequest, p.spriteZeroRendering) := by
  rw [ppuClock_of_not_onPixel c h hpixel, advance_flags, fetchLineWork_flags]

/-- Off the lines that fetch every clock but the start of vblank only counts (62_ppu.md R372, R388). -/
theorem ppuClock_of_idleLine (c : Cart) {p : Ppu} (h : ¬ OnFetchLine p) (hvblank : ¬ (p.scanline = 241 ∧ p.cycle = 1)) :
    ppuClock c p = advance p := by
  have hb : (decide (p.scanline = 241) && decide (p.cycle = 1)) = false := by simpa using hvblank
  rw [ppuClock_of_not_onFetchLine c h, hb, onlyIf_false]

/-- The clock at scanline 241 cycle 1 (62_ppu.md R388). -/
theorem ppuClock_of_vblank (c : Cart) {p : Ppu} (h : p.scanline = 241) (h1 : p.cycle = 1) :
    ppuClock c p =
      { p with status := p.status ||| 0x80, nmiRequest := p.nmiRequest || p.ctrl.getLsbD 7, cycle := 2 } := by
  have hline : ¬ OnFetchLine p := by unfold OnFetchLine; omega
  rw [ppuClock_of_not_onFetchLine c hline]
  simp [h, h1, advance, vblankStart]

/-- The work of lines -1 to 239 sets neither vblank nor the hit. -/
theorem fetchLineWork_status_bit (c : Cart) (p : Ppu) {i : Nat} (hi : i = 6 ∨ i = 7)
    (h : (fetchLineWork c p).status.getLsbD i = true) : p.status.getLsbD i = true := by
  have hstatus : (fetchLineWork c p).status = (spriteWork c p).status := congrArg Prod.fst (fetchLineWork_flags c p)
  rw [hstatus] at h
  rcases spriteWork_status c p with e | e | e <;> rw [e] at h
  · rcases hi with rfl | rfl <;> simp at h
  · exact h
  · rcases hi with rfl | rfl <;> simpa using h

theorem composite_nmiRequest (c : Cart) (p : Ppu) : (composite c p).nmiRequest = p.nmiRequest := by
  rw [(composite_eq c p).1]

/-- A clock elsewhere than at scanline 241 cycle 1 makes no NMI request and does not set vblank (62_ppu.md R388). -/
theorem ppuClock_vblank (c : Cart) {p : Ppu} (h : ¬ (p.scanline = 241 ∧ p.cycle = 1)) :
    (ppuClock c p).nmiRequest = p.nmiRequest ∧
      ((ppuClock c p).status.getLsbD 7 = true → p.status.getLsbD 7 = true) := by
  by_cases hline : OnFetchLine p
  · obtain ⟨hnmi, hstatus⟩ : (ppuClock c p).nmiRequest = (fetchLineWork c p).nmiRequest ∧
        ((ppuClock c p).status.getLsbD 7 = true → (fetchLineWork c p).status.getLsbD 7 = true) := by
      by_cases hpixel : OnPixel p
      · rw [ppuClock_of_onPixel c hpixel, advance_eq]
        refine ⟨composite_nmiRequest c _, fun h => ?_⟩
        rcases (composite_eq c (fetchLineWork c p)).2 with e | e <;> simpa [e] using h
      · rw [ppuClock_of_not_onPixel c hline hpixel, advance_eq]
        exact ⟨rfl, id⟩
    exact ⟨hnmi.trans (congrArg (fun f => f.2.1) (fetchLineWork_flags c p)),
      fun h => fetchLineWork_status_bit c p (.inr rfl) (hstatus h)⟩
  · rw [ppuClock_of_idleLine c hline h, advance_eq]
    exact ⟨rfl, id⟩

/-- The clock at the pre-render line's cycle 1 clears the three flags (62_ppu.md R373). -/
theorem ppuClock_status_of_clear (c : Cart) {p : Ppu} (h : p.scanline = -1) (h1 : p.cycle = 1) :
    (ppuClock c p).status = p.status &&& 0x1F := by
  have hline : OnFetchLine p := by unfold OnFetchLine; omega
  have hpixel : ¬ OnPixel p := by unfold OnPixel; omega
  have hflags := ppuClock_flags_of_not_onPixel c hline hpixel
  rw [spriteWork_of_clear c h h1] at hflags
  exact congrArg Prod.fst hflags

/-- Settles O49: the flags by the kind of clock. -/
theorem vblankStartsAndEnds : Obligations.VblankStartsAndEnds := by
  intro c p n
  refine ⟨ppuClock_of_vblank c, ppuClock_status_of_clear c, fun h240 h260 hvblank => ?idleLines, ppuClock_vblank c,
    fun hvblank hclear hpixel h257 => ?status, fun hpixel => ?note⟩
  case idleLines =>
    have hn : n = advance p := ppuClock_of_idleLine c (by unfold OnFetchLine; omega) hvblank
    rw [hn]
    exact advance_eq p
  case status =>
    by_cases hline : OnFetchLine p
    · have hkeep : (spriteWork c p).status = p.status := by
        rcases spriteWork_cases c p with ⟨hl, h1, -⟩ | ⟨-, -, -, h⟩ | ⟨hl, hk, -⟩ | h
        · exact absurd ⟨hl, h1⟩ hclear
        · rw [h]
          rfl
        · exact absurd ⟨hl, hline.2, hk⟩ h257
        · rw [h]
      exact (congrArg Prod.fst (ppuClock_flags_of_not_onPixel c hline hpixel)).trans hkeep
    · have hn : n = advance p := ppuClock_of_idleLine c hline hvblank
      exact hn ▸ congrArg Prod.fst (advance_flags p)
  case note =>
    by_cases hline : OnFetchLine p
    · exact congrArg (fun f => f.2.2) (ppuClock_flags_of_not_onPixel c hline hpixel)
    · by_cases hvblank : p.scanline = 241 ∧ p.cycle = 1
      · have hn : n = _ := ppuClock_of_vblank c hvblank.1 hvblank.2
        rw [hn]
      · have hn : n = advance p := ppuClock_of_idleLine c hline hvblank
        exact hn ▸ congrArg (fun f => f.2.2) (advance_flags p)

/-! ### Vblank and the machine's tick -/

/-- An interrupt entry through a vector of the cartridge does not look at the PPU (60_exceptions.md R314). -/
theorem interrupted_withPpu {vector : Word} (n : Nat) (s : State) (p : Ppu) (h : 0x8000 ≤ vector.toNat)
    (h' : 0x8000 ≤ (vector + 1).toNat) :
    interrupted vector n { s with ppu := p } = { interrupted vector n s with ppu := p } := by
  have hvector : vectorWord { s with ppu := p } vector = vectorWord s vector := by
    rw [vectorWord, memRead_high_value { s with ppu := p } s h rfl, memRead_high_value { s with ppu := p } s h' rfl, vectorWord]
  rw [interrupted, hvector]
  rfl

/-- Settles O31: the PPU's clock requests the NMI, and the end of the tick delivers it. -/
theorem nmiAtVblankStart : Obligations.NmiAtVblankStart := by
  intro s hs hf ht hline hcycle hctrl
  have htick := ppuClock_of_vblank s.cart hline hcycle
  rw [hctrl, Bool.or_true] at htick
  rw [step_of_noCpuClock hs hf ht, tickPpu, htick, (endOfTickDeliversNmi _).1 rfl,
    interrupted_withPpu _ _ _ (by decide) (by decide), interrupted_withPpu _ _ _ (by decide) (by decide)]

/-- The CPU's work does not set vblank (62_ppu.md R363). -/
theorem CpuMove.vblank {s t : State} (h : CpuMove s t) (hb : t.ppu.status.getLsbD 7 = true) :
    s.ppu.status.getLsbD 7 = true := by
  rcases h.status with e | e <;> rw [e] at hb
  · exact hb
  · simp at hb

theorem cpuClock_vblank {s t : State} (h : cpuClock s = .next t) (hb : t.ppu.status.getLsbD 7 = true) :
    s.ppu.status.getLsbD 7 = true := by
  rcases (cpuClock_moves h).2 with hmove | ⟨-, u, f, hmove, rfl⟩
  · exact hmove.vblank hb
  · exact hmove.vblank hb

theorem endTick_vblank {s : State} (hb : (endTick s).ppu.status.getLsbD 7 = true) : s.ppu.status.getLsbD 7 = true := by
  unfold endTick deliverNmi at hb
  split at hb
  · exact (nmiEntry_moves { s with ppu := { s.ppu with nmiRequest := false } }).vblank hb
  · exact hb

theorem afterCpu_vblank {s : State} (hb : (afterCpu s).ppu.status.getLsbD 7 = true) :
    s.ppu.status.getLsbD 7 = true := by
  unfold afterCpu at hb
  split at hb
  · exact hb
  · exact endTick_vblank hb

/-- Settles O60: the PPU's clock sets nothing there, the CPU's work can only clear vblank, and without a request the end of
the tick leaves the CPU. -/
theorem vblankOnlyAtItsClock : Obligations.VblankOnlyAtItsClock := by
  intro s t hidle h hpos
  obtain ⟨hnmi, hvblank⟩ := ppuClock_vblank s.cart hpos
  obtain ⟨-, ⟨-, rfl⟩ | ⟨hf, -, rfl⟩ | ⟨-, ht, u, hu, rfl⟩⟩ := step_cases h
  · exact ⟨id, fun _ => rfl⟩
  · have hrequest : s.ppu.nmiRequest = false := by simpa [State.nmiIdle, hf] using hidle
    rw [(endOfTickDeliversNmi (tickPpu s)).2 (hnmi.trans hrequest)]
    exact ⟨hvblank, fun _ => rfl⟩
  · refine ⟨fun hb => ?_, fun ht' => absurd ht ht'⟩
    have hcpu : (tickPpu s).ppu.status.getLsbD 7 = true := cpuClock_vblank hu (afterCpu_vblank hb)
    exact hvblank hcpu

/-! ### The sprite list -/

/-- The sprite list, its count and the sprite-zero note alone. -/
def Ppu.spriteList (p : Ppu) : Nat × Bool × List SpriteSlot := (p.spriteCount, p.spriteZeroPossible, p.slots)

theorem composite_spriteList (c : Cart) (p : Ppu) : (composite c p).spriteList = p.spriteList := by
  rw [(composite_eq c p).1]
  rfl

theorem advance_spriteList (p : Ppu) : (advance p).spriteList = p.spriteList := by
  rw [advance_eq]
  rfl

/-- On the lines that fetch, the sprite list is as the sprite units leave it. -/
theorem ppuClock_spriteList_of_onFetchLine (c : Cart) {p : Ppu} (h : OnFetchLine p) :
    (ppuClock c p).spriteList = (spriteWork c p).spriteList := by
  rw [ppuClock_of_onFetchLine c h, advance_spriteList, onlyIf_keeps Ppu.spriteList fun _ => composite_spriteList c _,
    fetchLineWork_sameButFetch]
  rfl

theorem ppuClock_spriteList_of_not_onFetchLine (c : Cart) {p : Ppu} (h : ¬ OnFetchLine p) :
    (ppuClock c p).spriteList = p.spriteList := by
  rw [ppuClock_of_not_onFetchLine c h, advance_spriteList]
  exact onlyIf_keeps Ppu.spriteList fun _ => rfl

/-- A listed sprite is counted down, or shifted when its delay has run out (62_ppu.md R387). -/
theorem updateSlot_eq (sp : SpriteSlot) :
    updateSlot sp =
      if 0 < sp.x.toNat then { sp with x := BitVec.ofNat 8 (sp.x.toNat - 1) }
      else { sp with shiftLo := BitVec.ofNat 8 (sp.shiftLo.toNat * 2), shiftHi := BitVec.ofNat 8 (sp.shiftHi.toNat * 2) } := by
  have hshift (b : Byte) : b <<< 1 = BitVec.ofNat 8 (b.toNat * 2) := by
    refine BitVec.eq_of_toNat_eq ?_
    rw [BitVec.toNat_shiftLeft, BitVec.toNat_ofNat, Nat.shiftLeft_eq]
  rw [updateSlot, hshift, hshift]
  split
  · have hx : sp.x - 1 = BitVec.ofNat 8 (sp.x.toNat - 1) := by
      refine BitVec.eq_of_toNat_eq ?_
      have hlt := sp.x.isLt
      simp
      omega
    rw [hx]
  · rfl

/-- Settles O48: the sprite units by the kind of clock. -/
theorem clockWorksTheSpriteList : Obligations.ClockWorksTheSpriteList := by
  intro c p n visible
  refine ⟨fun hvisible h2 h256 => ?counting, fun hvisible h257 => ?evaluating, fun hpre h1 => ?clearing,
    fun hcount hclear => ?idle⟩
  case counting =>
    have h : n.spriteList = (updateSprites p).spriteList := by
      rw [ppuClock_spriteList_of_onFetchLine c (by unfold OnFetchLine; omega), spriteWork_of_counting c hvisible.1 h2 h256]
    simp only [Ppu.spriteList, Prod.mk.injEq] at h
    obtain ⟨hn, hz, hslots⟩ := h
    refine ⟨hn, hz, fun k sp hk => ?_⟩
    rw [hslots, updateSprites, mapFirst_getElem?, hk]
    by_cases hlt : k < p.spriteCount
    · rw [if_pos hlt, if_neg (Nat.not_le.mpr hlt), Option.map_some, updateSlot_eq]
    · rw [if_neg hlt, if_pos (Nat.not_lt.mp hlt)]
  case evaluating =>
    have hline : OnFetchLine p := by unfold OnFetchLine; omega
    have h := ppuClock_spriteList_of_onFetchLine c hline
    rw [spriteWork_of_cycle257 c hvisible.1 h257] at h
    simp only [Ppu.spriteList, Prod.mk.injEq] at h
    obtain ⟨hn, hz, hslots⟩ := h
    have hpixel : ¬ OnPixel p := by unfold OnPixel; omega
    have hflags := ppuClock_flags_of_not_onPixel c hline hpixel
    rw [spriteWork_of_cycle257 c hvisible.1 h257] at hflags
    exact ⟨hn, hz, hslots, congrArg Prod.fst hflags⟩
  case clearing =>
    have h : n.spriteList = (preRenderClear p).spriteList := by
      rw [ppuClock_spriteList_of_onFetchLine c (by unfold OnFetchLine; omega), spriteWork_of_clear c hpre h1]
    simp only [Ppu.spriteList, Prod.mk.injEq] at h
    exact h
  case idle =>
    have h : n.spriteList = p.spriteList := by
      by_cases hline : OnFetchLine p
      · rw [ppuClock_spriteList_of_onFetchLine c hline, spriteWork_of_idle c ?_ hclear]
        unfold OnFetchLine at hline
        omega
      · exact ppuClock_spriteList_of_not_onFetchLine c hline
    simpa only [Ppu.spriteList, Prod.mk.injEq] using h

end Sys2Proof.Machine
end

section
/-! ## Sprite evaluation and the sprite shifters' load (62_ppu.md R384 to R386) -/

namespace Sys2Proof.Machine

/-! ### The entries in range -/

/-- The OAM entries in range among `n`, `n + 1`, ..., `fuel` of them, in OAM order (62_ppu.md R384). -/
def hitsFrom (p : Ppu) (n fuel : Nat) : List Nat := (List.range' n fuel).filter (inRange p)

theorem hitsFrom_of_not_inRange {p : Ppu} {n : Nat} (fuel : Nat) (h : inRange p n = false) :
    hitsFrom p n (fuel + 1) = hitsFrom p (n + 1) fuel := by
  simp [hitsFrom, List.range'_succ, h]

theorem hitsFrom_of_inRange {p : Ppu} {n : Nat} (fuel : Nat) (h : inRange p n = true) :
    hitsFrom p n (fuel + 1) = n :: hitsFrom p (n + 1) fuel := by
  simp [hitsFrom, List.range'_succ, h]

theorem le_of_mem_hitsFrom {p : Ppu} {n fuel m : Nat} (h : m ∈ hitsFrom p n fuel) : n ≤ m :=
  (List.mem_range'_1.mp (List.mem_of_mem_filter h)).1

theorem inRange_eq (p : Ppu) (n : Nat) :
    inRange p n = decide (0 ≤ p.scanline - (p.oam.read (4 * n)).toNat ∧
      p.scanline - (p.oam.read (4 * n)).toNat < if p.ctrl.getLsbD 5 = true then 16 else 8) := by
  simp [inRange, spriteHeight]

theorem entriesInRange_eq (p : Ppu) : entriesInRange p = hitsFrom p 0 64 := by
  rw [entriesInRange, hitsFrom, List.range_eq_range']
  exact List.filter_congr fun n _ => (inRange_eq p n).symm

/-! ### The scan -/

/-- What holds of every scan that starts with at most eight sprites listed: the entries are passed over or listed one by
one, until none is left or a ninth is in range (62_ppu.md R384). -/
theorem scanOam_induction {motive : Nat → Nat → Ppu → Ppu → Prop}
    (done : ∀ n p, p.spriteCount ≤ 8 → motive 0 n p p)
    (skip : ∀ fuel n p q, inRange p n = false → motive fuel (n + 1) p q → motive (fuel + 1) n p q)
    (overflow : ∀ fuel n p, inRange p n = true → p.spriteCount = 8 →
      motive (fuel + 1) n p { p with status := p.status ||| 0x20 })
    (list : ∀ fuel n p q, inRange p n = true → p.spriteCount < 8 → motive fuel (n + 1) (listEntry n p) q →
      motive (fuel + 1) n p q)
    (fuel n : Nat) (p : Ppu) (h : p.spriteCount ≤ 8) : motive fuel n p (scanOam fuel n p) := by
  induction fuel generalizing n p with
  | zero => exact done n p h
  | succ fuel ih =>
    cases hr : inRange p n with
    | false =>
      rw [scanOam_of_not_inRange hr]
      exact skip fuel n p _ hr (ih (n + 1) p h)
    | true =>
      by_cases h8 : p.spriteCount = 8
      · rw [scanOam_of_overflow hr h8]
        exact overflow fuel n p hr h8
      · rw [scanOam_of_inRange hr h8]
        have hlt : p.spriteCount < 8 := by omega
        exact list fuel n p _ hr hlt (ih (n + 1) (listEntry n p) hlt)

/-- Listing an entry in range leaves the number of those listed and still to come. -/
theorem listEntry_total {p : Ppu} {n : Nat} (fuel : Nat) (h : inRange p n = true) :
    (listEntry n p).spriteCount + (hitsFrom (listEntry n p) (n + 1) fuel).length =
      p.spriteCount + (hitsFrom p n (fuel + 1)).length := by
  rw [hitsFrom_of_inRange fuel h, List.length_cons]
  exact Nat.succ_add_eq_add_succ ..

/-- The count and overflow: the entries in range are counted up to eight, and more set overflow (62_ppu.md R384). -/
theorem scanOam_count (fuel n : Nat) (p : Ppu) (h : p.spriteCount ≤ 8) :
    let total := p.spriteCount + (hitsFrom p n fuel).length
    (scanOam fuel n p).spriteCount = min 8 total ∧
      (scanOam fuel n p).status = if 8 < total then p.status ||| 0x20 else p.status := by
  refine scanOam_induction
    (motive := fun fuel n p q =>
      q.spriteCount = min 8 (p.spriteCount + (hitsFrom p n fuel).length) ∧
      q.status = if 8 < p.spriteCount + (hitsFrom p n fuel).length then p.status ||| 0x20 else p.status)
    ?done ?skip ?overflow ?list fuel n p h
  case done =>
    intro n p h
    have hmore : ¬ 8 < p.spriteCount := Nat.not_lt.mpr h
    simp [hitsFrom, h, hmore]
  case skip =>
    intro fuel n p q hr ih
    rwa [hitsFrom_of_not_inRange fuel hr]
  case overflow =>
    intro fuel n p hr h8
    have hmore : 8 < p.spriteCount + (hitsFrom p n (fuel + 1)).length := by
      rw [hitsFrom_of_inRange fuel hr, List.length_cons]
      omega
    rw [if_pos hmore]
    exact ⟨by simp only; omega, rfl⟩
  case list =>
    intro fuel n p q hr _ ih
    rwa [listEntry_total fuel hr] at ih

/-- The sprite-zero note: entry 0 is in range. The scan reaches entry 0 first, if at all (62_ppu.md R384). -/
theorem scanOam_spriteZero (fuel n : Nat) (p : Ppu) (h : p.spriteCount ≤ 8) (hn : p.spriteCount ≤ n) :
    (scanOam fuel n p).spriteZeroPossible = (p.spriteZeroPossible || decide (0 ∈ hitsFrom p n fuel)) := by
  refine scanOam_induction
    (motive := fun fuel n p q => p.spriteCount ≤ n →
      q.spriteZeroPossible = (p.spriteZeroPossible || decide (0 ∈ hitsFrom p n fuel)))
    ?done ?skip ?overflow ?list fuel n p h hn
  case done =>
    intro n p _ _
    simp [hitsFrom]
  case skip =>
    intro fuel n p q hr ih hn
    rw [hitsFrom_of_not_inRange fuel hr]
    exact ih (by omega)
  case overflow =>
    intro fuel n p _ h8 hn
    have hzero : 0 ∉ hitsFrom p n (fuel + 1) := fun hmem => by
      have := le_of_mem_hitsFrom hmem
      omega
    simp [hzero]
  case list =>
    intro fuel n p q hr _ ih hn
    rw [ih (Nat.succ_le_succ hn), hitsFrom_of_inRange fuel hr]
    change (p.spriteZeroPossible || decide (n = 0) || decide (0 ∈ hitsFrom p (n + 1) fuel)) = _
    simp [Bool.or_assoc, eq_comm]

/-- The slot an OAM entry is copied to, its shift bytes cleared (62_ppu.md R384). -/
def entrySlot (oam : Memory) (n : Nat) : SpriteSlot where
  y := oam.read (4 * n)
  tile := oam.read (4 * n + 1)
  attr := oam.read (4 * n + 2)
  x := oam.read (4 * n + 3)
  shiftLo := 0
  shiftHi := 0

/-- Listing an entry fills the next slot. -/
theorem listEntry_slot {n : Nat} {p : Ppu} (h : p.spriteCount < p.slots.length) :
    (listEntry n p).slots[p.spriteCount]? = some (entrySlot p.oam n) := by
  simp [listEntry, copyEntry, entrySlot, h]

/-- Listing an entry leaves the other slots. -/
theorem listEntry_otherSlot (n : Nat) {p : Ppu} {k : Nat} (h : p.spriteCount ≠ k) :
    (listEntry n p).slots[k]? = p.slots[k]? := by
  simp [listEntry, copyEntry, h]

/-- The slots: the entries in range fill the list's next slots in order, every other slot stays (62_ppu.md R384). -/
theorem scanOam_slots (fuel n : Nat) (p : Ppu) (h : p.spriteCount ≤ 8) (hlen : p.slots.length = 8) :
    (∀ k, k < p.spriteCount ∨ p.spriteCount + (hitsFrom p n fuel).length ≤ k →
      (scanOam fuel n p).slots[k]? = p.slots[k]?) ∧
    (∀ j m, p.spriteCount + j < 8 → (hitsFrom p n fuel)[j]? = some m →
      (scanOam fuel n p).slots[p.spriteCount + j]? = some (entrySlot p.oam m)) := by
  refine scanOam_induction
    (motive := fun fuel n p q => p.slots.length = 8 →
      (∀ k, k < p.spriteCount ∨ p.spriteCount + (hitsFrom p n fuel).length ≤ k → q.slots[k]? = p.slots[k]?) ∧
      (∀ j m, p.spriteCount + j < 8 → (hitsFrom p n fuel)[j]? = some m →
        q.slots[p.spriteCount + j]? = some (entrySlot p.oam m)))
    ?done ?skip ?overflow ?list fuel n p h hlen
  case done =>
    intro n p _ _
    exact ⟨fun _ _ => rfl, fun j m _ hj => by simp [hitsFrom] at hj⟩
  case skip =>
    intro fuel n p q hr ih
    rwa [hitsFrom_of_not_inRange fuel hr]
  case overflow =>
    intro fuel n p _ h8 _
    exact ⟨fun _ _ => rfl, fun j m hj => by omega⟩
  case list =>
    intro fuel n p q hr hlt ih hlen
    obtain ⟨hkeep, hfill⟩ := ih (by rw [listEntry, copyEntry_length, hlen])
    have hcount : (listEntry n p).spriteCount = p.spriteCount + 1 := rfl
    rw [listEntry_total fuel hr] at hkeep
    refine ⟨fun k hk => ?_, fun j m hj hm => ?_⟩
    · have hne : p.spriteCount ≠ k := by
        rw [hitsFrom_of_inRange fuel hr, List.length_cons] at hk
        omega
      rw [hkeep k (by omega), listEntry_otherSlot n hne]
    · rw [hitsFrom_of_inRange fuel hr] at hm
      cases j with
      | zero =>
        obtain rfl : n = m := by simpa using hm
        rw [Nat.add_zero, hkeep p.spriteCount (.inl (Nat.lt_succ_self _)), listEntry_slot (by omega)]
      | succ j =>
        rw [← Nat.succ_add_eq_add_succ]
        exact hfill j m (by omega) (by rwa [List.getElem?_cons_succ] at hm)

/-- Settles O46: the scan of all 64 entries from an empty list. -/
theorem spriteEvaluationFindsTheFirstEight : Obligations.SpriteEvaluationFindsTheFirstEight := by
  intro p hlen hits q
  have hhits : hits = hitsFrom (evalStart p) 0 64 := entriesInRange_eq p
  have hempty : (evalStart p).spriteCount = 0 := rfl
  have hlen' : (evalStart p).slots.length = 8 := (List.length_map ..).trans hlen
  obtain ⟨hcount, hstatus⟩ := scanOam_count 64 0 (evalStart p) (Nat.zero_le 8)
  obtain ⟨hkeep, hfill⟩ := scanOam_slots 64 0 (evalStart p) (Nat.zero_le 8) hlen'
  have hzero := scanOam_spriteZero 64 0 (evalStart p) (Nat.zero_le 8) (Nat.le_refl 0)
  simp only [← hhits, hempty, Nat.zero_add, ← spriteEval_eq_scan] at hcount hstatus hzero hkeep hfill
  refine ⟨hcount, hzero.trans (Bool.false_or _), hstatus, fun k n hk hn => hfill k n hk hn, fun k sp hk hsp => ?_,
    (scanOam_bounds 64 0 (evalStart p) (Nat.zero_le 8)).1.trans hlen', spriteEval_eq p⟩
  rw [hkeep k (.inr hk)]
  simp [evalStart, hsp, clearShift]

/-! ### The shifters' load -/

/-- The row within a tile, from the bottom under a vertical flip. -/
theorem flippedRow_toNat (vflip : Bool) {row : Nat} (h : row < 8) :
    (if vflip = true then 7 - BitVec.ofNat 16 row else BitVec.ofNat 16 row : Word).toNat =
      if vflip = true then 7 - row else row := by
  interval_cases row <;> cases vflip <;> rfl

/-- The tile of a tall sprite that holds a row: the lower one from row 8 on, the other one under a vertical flip. -/
theorem tallHalf_toNat (vflip : Bool) {row : Nat} (h : row < 16) :
    (if (decide (8 ≤ (BitVec.ofNat 16 row).toNat) != vflip) = true then 1 else 0 : Word).toNat =
      if vflip = true then 1 - row / 8 else row / 8 := by
  interval_cases row <;> cases vflip <;> rfl

/-- The parts of a pattern address have no bit in common. -/
theorem patternParts_or (table : Nat) {tile row : Nat} (ht : tile < 256) (hr : row < 8) :
    table * 4096 ||| tile * 16 ||| row = table * 4096 + tile * 16 + row := by
  have htile : table * 4096 ||| tile * 16 = table * 4096 + tile * 16 :=
    or_eq_add_of_dvd (k := 12) (by omega) (by omega)
  rw [htile, or_eq_add_of_dvd (k := 4) (by omega) (by omega)]

theorem flippedRow_lt (vflip : Bool) {row : Nat} (h : row < 8) : (if vflip = true then 7 - row else row) < 8 := by
  split <;> omega

/-- The pattern address of a row of an 8x8 sprite (62_ppu.md R385). -/
theorem spritePatternAddr_small {p : Ppu} {sp : SpriteSlot} {row : Nat} (h : p.scanline - sp.y.toNat = row)
    (hsize : p.ctrl.getLsbD 5 = false) (hrow : row < 8) :
    (spritePatternAddr p sp).toNat = spriteAddress p sp row ∧ spriteAddress p sp row ≤ 0x1FF7 := by
  have htile := sp.tile.isLt
  have hr := flippedRow_lt (sp.attr.getLsbD 7) hrow
  have htable : ((if p.ctrl.getLsbD 3 = true then 0x1000 else 0x0000 : Nat) : Word).toNat =
      (p.ctrl.getLsbD 3).toNat * 4096 := by
    cases p.ctrl.getLsbD 3 <;> rfl
  have hplace : (zext16 sp.tile <<< 4).toNat = sp.tile.toNat * 16 := by
    rw [BitVec.toNat_shiftLeft, zext16_toNat, Nat.shiftLeft_eq]
    omega
  have hbit := Bool.toNat_le (p.ctrl.getLsbD 3)
  unfold spritePatternAddr spriteAddress
  rw [h, BitVec.ofInt_natCast, if_pos hsize, if_pos hsize, BitVec.toNat_or, BitVec.toNat_or, htable, hplace,
    flippedRow_toNat _ hrow, patternParts_or _ htile hr]
  exact ⟨rfl, by omega⟩

/-- The tile's place in the address of a tall sprite: the even tile number and the half. -/
theorem tallTile_toNat (tile : Byte) {half : Word} (h : half.toNat ≤ 1) :
    (((zext16 tile &&& 0xFE) + half) <<< 4).toNat = (tile.toNat / 2 * 2 + half.toNat) * 16 := by
  have htile := tile.isLt
  have heven : (zext16 tile &&& 0xFE).toNat = tile.toNat / 2 * 2 := by
    rw [toNat_and_field _ (k := 7) (j := 1) rfl, zext16_toNat]
    omega
  rw [BitVec.toNat_shiftLeft, BitVec.toNat_add, heven, Nat.shiftLeft_eq]
  omega

/-- The pattern address of a row of an 8x16 sprite (62_ppu.md R385). -/
theorem spritePatternAddr_tall {p : Ppu} {sp : SpriteSlot} {row : Nat} (h : p.scanline - sp.y.toNat = row)
    (hsize : p.ctrl.getLsbD 5 = true) (hrow : row < 16) :
    (spritePatternAddr p sp).toNat = spriteAddress p sp row ∧ spriteAddress p sp row ≤ 0x1FF7 := by
  have htile := sp.tile.isLt
  have hr := flippedRow_lt (sp.attr.getLsbD 7) (Nat.mod_lt row (by decide : 0 < 8))
  have hmod : BitVec.ofNat 16 row &&& 7 = BitVec.ofNat 16 (row % 8) := by
    refine BitVec.eq_of_toNat_eq ?_
    rw [toNat_and_lowMask _ (k := 3) rfl, BitVec.toNat_ofNat, BitVec.toNat_ofNat]
    omega
  have htable : ((zext16 sp.tile &&& 1) <<< 12).toNat = sp.tile.toNat % 2 * 4096 := by
    rw [BitVec.toNat_shiftLeft, toNat_and_lowMask _ (k := 1) rfl, zext16_toNat, Nat.shiftLeft_eq]
    omega
  have hhalf := tallHalf_toNat (sp.attr.getLsbD 7) hrow
  have hhalf_le : (if sp.attr.getLsbD 7 = true then 1 - row / 8 else row / 8) ≤ 1 := by split <;> omega
  have hne : ¬ p.ctrl.getLsbD 5 = false := by simp [hsize]
  unfold spritePatternAddr spriteAddress
  dsimp only
  rw [h, BitVec.ofInt_natCast, if_neg hne, if_neg hne, BitVec.toNat_or, BitVec.toNat_or, htable,
    tallTile_toNat _ (hhalf.le.trans hhalf_le), hhalf, hmod, flippedRow_toNat _ (Nat.mod_lt row (by decide)),
    patternParts_or _ (by omega) hr]
  exact ⟨rfl, by omega⟩

/-- The pattern address of a row in the sprite's height is the rules' (62_ppu.md R385), and lies in the tables. -/
theorem spritePatternAddr_toNat {p : Ppu} {sp : SpriteSlot} {row : Nat} (h : p.scanline - sp.y.toNat = row)
    (hrow : row < if p.ctrl.getLsbD 5 = true then 16 else 8) :
    (spritePatternAddr p sp).toNat = spriteAddress p sp row ∧ spriteAddress p sp row ≤ 0x1FF7 := by
  cases hsize : p.ctrl.getLsbD 5 with
  | false => exact spritePatternAddr_small h hsize (by rwa [hsize] at hrow)
  | true => exact spritePatternAddr_tall h hsize (by rwa [hsize] at hrow)

/-- A byte mirrored under a flip, bit by bit (62_ppu.md R386). -/
theorem flippedIs_reverse (flip : Bool) (b : Byte) : FlippedIs flip b (if flip = true then bitReverse b else b) := by
  intro i hi
  cases flip with
  | false => rfl
  | true =>
    rw [if_pos rfl, if_pos rfl, bitReverse, BitVec.getLsbD_reverse, BitVec.getMsbD_eq_getLsbD]
    simp [hi]

/-- Settles O47: the load of one listed sprite. -/
theorem spriteShiftersLoadPatternRows : Obligations.SpriteShiftersLoadPatternRows := by
  intro c p k row sp hm hk
  have hslot : (loadSpriteShifters c p).slots[k]? = if k < p.spriteCount then some (loadSlot c p sp) else some sp := by
    rw [loadSpriteShifters, mapFirst_getElem?, hk]
    rfl
  refine ⟨fun hlt hrow hheight => ?loaded, fun hge => ?past⟩
  case loaded =>
    obtain ⟨haddr, hbound⟩ := spritePatternAddr_toNat hrow hheight
    have hlo : ppuRead c p (spritePatternAddr p sp) = c.chr.read (spriteAddress p sp row) := by
      rw [ppuRead_chr p hm (by omega), haddr, Nat.mod_eq_of_lt (by omega)]
    have hhi : ppuRead c p (spritePatternAddr p sp + 8) = c.chr.read (spriteAddress p sp row + 8) := by
      have haddr8 : (spritePatternAddr p sp + 8).toNat = spriteAddress p sp row + 8 := by
        rw [BitVec.toNat_add, haddr]
        exact Nat.mod_eq_of_lt (by simp; omega)
      rw [ppuRead_chr p hm (by omega), haddr8, Nat.mod_eq_of_lt (by omega)]
    refine ⟨_, _, flippedIs_reverse _ _, flippedIs_reverse _ _, ?_⟩
    rw [hslot, if_pos hlt, loadSlot, hlo, hhi]
    cases sp.attr.getLsbD 6 <;> rfl
  case past => rw [hslot, if_neg (Nat.not_lt.mpr hge)]

end Sys2Proof.Machine
end

section
/-! ## The pixel step (62_ppu.md R389 to R393) -/

namespace Sys2Proof.Machine

/-! ### The background pixel -/

/-- A bit of a shifter through the fine-scroll mask (62_ppu.md R389). -/
theorem fineBit_iff (r : Word) (f : BitVec 3) :
    r &&& ((0x8000 >>> f.toNat : Nat) : Word) ≠ 0 ↔ r.getLsbD (15 - f.toNat) = true := by
  have hmask : ∀ g : BitVec 3, ((0x8000 >>> g.toNat : Nat) : Word) = BitVec.twoPow 16 (15 - g.toNat) := by decide
  have hbit : ∀ g : BitVec 3, BitVec.twoPow 16 (15 - g.toNat) ≠ 0 := by decide
  rw [hmask f, BitVec.and_twoPow]
  cases r.getLsbD (15 - f.toNat) with
  | false => simp
  | true => simpa using hbit f

theorem twoBits_eq_pairOf {hi lo : Bool} {P Q : Prop} [Decidable P] [Decidable Q] (hP : P ↔ hi = true) (hQ : Q ↔ lo = true) :
    twoBits hi lo = pairOf P Q := by
  simp only [twoBits, pairOf, hP, hQ]

theorem bgPixel_eq (p : Ppu) : bgPixel p = backgroundOf p := by
  unfold bgPixel backgroundOf
  dsimp only
  split
  · rw [twoBits_eq_pairOf (fineBit_iff _ _) (fineBit_iff _ _), twoBits_eq_pairOf (fineBit_iff _ _) (fineBit_iff _ _)]
  · rfl

/-! ### The foreground sprite -/

theorem slotPixelOf_eq {p : Ppu} {i : Nat} {sp : SpriteSlot} (h : p.slots[i]? = some sp) : slotPixelOf p i = slotPixel sp := by
  have hbit (b : Byte) : b.getLsbD 7 = true ↔ b.msb = true := by rw [BitVec.msb_eq_getLsbD_last]
  rw [slotPixelOf, h, slotPixel, twoBits_eq_pairOf (hbit sp.shiftHi) (hbit sp.shiftLo)]
  rfl

theorem slotPixelOf_of_none {p : Ppu} {i : Nat} (h : p.slots[i]? = none) : slotPixelOf p i = 0 := by
  rw [slotPixelOf, h]

/-- The scan passes over a slot whose pixel is transparent. -/
theorem firstOpaque_of_transparent {p : Ppu} {i : Nat} (n : Nat) (h : slotPixelOf p i = 0) :
    firstOpaque (n + 1) i (p.slots.drop i) = firstOpaque n (i + 1) (p.slots.drop (i + 1)) := by
  rw [List.drop_eq_getElem?_toList_append]
  cases hi : p.slots[i]? with
  | none =>
    have hrest : p.slots.drop (i + 1) = [] := List.drop_eq_nil_of_le (Nat.le_succ_of_le (List.getElem?_eq_none_iff.mp hi))
    rw [hrest]
    cases n <;> rfl
  | some sp =>
    rw [slotPixelOf_eq hi] at h
    exact if_pos h

/-- The scan ends at a slot whose pixel is opaque. -/
theorem firstOpaque_of_opaque {p : Ppu} {i : Nat} {sp : SpriteSlot} (n : Nat) (hi : p.slots[i]? = some sp)
    (h : slotPixel sp ≠ 0) : firstOpaque (n + 1) i (p.slots.drop i) = some (i, sp) := by
  rw [List.drop_eq_getElem?_toList_append, hi]
  exact if_neg h

/-- The scan of the slots for the first opaque one is the search by number (62_ppu.md R390). -/
theorem firstOpaque_cases (p : Ppu) (n i : Nat) :
    let found := (List.range' i n).find? (fun j => decide (slotPixelOf p j ≠ 0))
    (found = none ∧ firstOpaque n i (p.slots.drop i) = none) ∨
    ∃ j sp, found = some j ∧ p.slots[j]? = some sp ∧ slotPixel sp ≠ 0 ∧
      firstOpaque n i (p.slots.drop i) = some (j, sp) := by
  induction n generalizing i with
  | zero => exact .inl ⟨rfl, rfl⟩
  | succ n ih =>
    rw [List.range'_succ, List.find?_cons]
    by_cases h : slotPixelOf p i = 0
    · rw [firstOpaque_of_transparent n h]
      simpa [h] using ih (i + 1)
    · cases hi : p.slots[i]? with
      | none => exact absurd (slotPixelOf_of_none hi) h
      | some sp =>
        rw [slotPixelOf_eq hi] at h
        refine .inr ⟨i, sp, ?_, hi, h, firstOpaque_of_opaque n hi h⟩
        simp [slotPixelOf_eq hi, h]

/-- Either no listed slot is opaque, or the first that is gives the foreground pixel (62_ppu.md R390). -/
theorem foreground_cases (p : Ppu) :
    (foregroundSlot p = none ∧ fgSprite p = none) ∨
    ∃ i sp, foregroundSlot p = some i ∧ p.slots[i]? = some sp ∧ slotPixel sp ≠ 0 ∧ p.mask.getLsbD 4 = true ∧
      fgSprite p = some (i, sp) := by
  unfold foregroundSlot fgSprite
  split
  · rw [List.range_eq_range']
    rcases firstOpaque_cases p p.spriteCount 0 with ⟨hfound, hfirst⟩ | ⟨i, sp, hfound, hslot, hopaque, hfirst⟩
    · exact .inl ⟨hfound, hfirst⟩
    · exact .inr ⟨i, sp, hfound, hslot, hopaque, ‹_›, hfirst⟩
  · exact .inl ⟨rfl, rfl⟩

theorem toNat_and_three (b : Byte) : (b &&& 0x03).toNat = b.toNat % 4 := Nat.and_two_pow_sub_one_eq_mod b.toNat 2

theorem foregroundOf_eq (p : Ppu) :
    foregroundOf p = (fgPixel (fgSprite p), fgPalette (fgSprite p), fgFront (fgSprite p)) := by
  rcases foreground_cases p with ⟨hnone, hsprite⟩ | ⟨i, sp, hsome, hslot, -, -, hsprite⟩
  · rw [foregroundOf, hnone, hsprite]
    rfl
  · rw [foregroundOf, hsome, hsprite]
    dsimp only
    rw [hslot]
    dsimp only [fgPixel, fgPalette, fgFront]
    rw [slotPixelOf_eq hslot, toNat_and_three]
    cases sp.attr.getLsbD 5 <;> rfl

/-- Slot 0 gives the foreground pixel (62_ppu.md R390). -/
theorem isSlotZero_eq (p : Ppu) : isSlotZero (fgSprite p) = decide (foregroundSlot p = some 0) := by
  rcases foreground_cases p with ⟨hnone, hsprite⟩ | ⟨i, sp, hsome, -, -, -, hsprite⟩
  · rw [hnone, hsprite]
    rfl
  · rw [hsome, hsprite]
    simp [isSlotZero, Bool.beq_eq_decide_eq]

theorem mergePixel_eq (p : Ppu) :
    mergePixel (bgPixel p) (fgPixel (fgSprite p), fgPalette (fgSprite p)) (fgFront (fgSprite p)) = mergedOf p := by
  rw [mergedOf, foregroundOf_eq, bgPixel_eq]
  rfl

/-! ### The colour -/

theorem pairOf_le (P Q : Prop) [Decidable P] [Decidable Q] : pairOf P Q ≤ 3 := by
  unfold pairOf
  split <;> split <;> omega

theorem twoBits_le (hi lo : Bool) : twoBits hi lo ≤ 3 := by cases hi <;> cases lo <;> decide

/-- The merged pixel is one of a palette's four, and the palette one of eight (62_ppu.md R389 to R391). -/
theorem mergedOf_le (p : Ppu) : (mergedOf p).1 ≤ 3 ∧ (mergedOf p).2 ≤ 7 := by
  have hbg : (backgroundOf p).1 ≤ 3 ∧ (backgroundOf p).2 ≤ 7 := by
    unfold backgroundOf
    dsimp only
    split
    · exact ⟨pairOf_le .., (pairOf_le ..).trans (by decide)⟩
    · exact ⟨Nat.zero_le _, Nat.zero_le _⟩
  have hfg : (foregroundOf p).1 ≤ 3 ∧ (foregroundOf p).2.1 ≤ 7 := by
    rw [foregroundOf_eq]
    cases fgSprite p with
    | none => exact ⟨Nat.zero_le _, Nat.zero_le _⟩
    | some e =>
      obtain ⟨i, sp⟩ := e
      refine ⟨?_, ?_⟩
      · dsimp only [fgPixel, slotPixel]
        split
        · exact twoBits_le ..
        · exact Nat.zero_le _
      · dsimp only [fgPalette]
        rw [toNat_and_three]
        omega
  unfold mergedOf
  dsimp only
  split_ifs
  · exact ⟨Nat.zero_le _, Nat.zero_le _⟩
  · exact hfg
  · exact hbg
  · exact hfg
  · exact hbg

/-- The colour index is the palette entry's, through the palette's mirrors (62_ppu.md R393, 20_memory.md R125). -/
theorem colourIndex_eq (c : Cart) (p : Ppu) {pix pal : Nat} (hpix : pix ≤ 3) (hpal : pal ≤ 7) :
    colourIndex c p pix pal = BitVec.ofNat 6 (p.palette.read (paletteCell (pal * 4 + pix))).toNat := by
  have haddr : (0x3F00 + BitVec.ofNat 16 (pal * 4) + BitVec.ofNat 16 pix : Word).toNat = 0x3F00 + (pal * 4 + pix) := by
    rw [BitVec.toNat_add, BitVec.toNat_add, BitVec.toNat_ofNat, BitVec.toNat_ofNat]
    change ((0x3F00 + _) % 65536 + _) % 65536 = _
    omega
  have hcell : paletteCell ((0x3F00 + (pal * 4 + pix)) % 16384) = paletteCell (pal * 4 + pix) := by
    have hmod : (0x3F00 + (pal * 4 + pix)) % 16384 % 32 = (pal * 4 + pix) % 32 := by omega
    rw [paletteCell, paletteCell, hmod]
  rw [colourIndex, ppuRead_palette p (by omega), haddr, hcell]
  exact (BitVec.ofNat_toNat ..).symm

/-! ### The pixel step -/

theorem spriteZeroCheck_eq (p : Ppu) : spriteZeroCheck p = { p with status := (spriteZeroCheck p).status } := by
  unfold spriteZeroCheck
  split <;> rfl

/-- The pixel step writes the merged pixel's colour in the current cell (62_ppu.md R391, R393). -/
theorem composite_frame_eq (c : Cart) (p : Ppu) :
    (composite c p).frame = frameWrite p.frame (frameIndex p)
      (Config.systemPalette (colourIndex c p (mergedOf p).1 (mergedOf p).2)) := by
  unfold composite
  dsimp only
  rw [mergePixel_eq, spriteZeroCheck_eq]
  split <;> rfl

theorem composite_spriteZeroRendering (c : Cart) (p : Ppu) :
    (composite c p).spriteZeroRendering = decide (foregroundSlot p = some 0) := by
  rw [← isSlotZero_eq]
  unfold composite
  dsimp only
  rw [spriteZeroCheck_eq]
  split <;> rfl

theorem spriteZeroCheck_status (p : Ppu) :
    (spriteZeroCheck p).status =
      if p.spriteZeroPossible = true ∧ p.spriteZeroRendering = true ∧ p.mask.getLsbD 3 = true ∧
        p.mask.getLsbD 4 = true ∧ firstHitCycle p ≤ p.cycle ∧ p.cycle ≤ 256 then p.status ||| 0x40 else p.status := by
  unfold spriteZeroCheck
  split <;> rfl

/-- An opaque background pixel needs the background shown (62_ppu.md R389). -/
theorem mask_of_background {p : Ppu} (h : (backgroundOf p).1 ≠ 0) : p.mask.getLsbD 3 = true := by
  by_contra hmask
  exact h (by rw [backgroundOf, if_neg hmask])

theorem firstHitCycle_eq (p : Ppu) :
    firstHitCycle p = if p.mask.getLsbD 1 = true ∧ p.mask.getLsbD 2 = true then 1 else 9 := by
  simp only [firstHitCycle, Bool.and_eq_true]

/-- Setting bits where a condition holds. -/
theorem or_ite_zero (b m : Byte) (P : Prop) [Decidable P] :
    b ||| (if P then m else 0x00) = if P then b ||| m else b := by
  split
  · rfl
  · exact BitVec.or_zero

/-- When the pixel step sets the hit (62_ppu.md R391, R392). -/
theorem composite_status (c : Cart) (p : Ppu) :
    (composite c p).status =
      if (backgroundOf p).1 ≠ 0 ∧ p.spriteZeroPossible = true ∧ foregroundSlot p = some 0 ∧
        firstHitCycle p ≤ p.cycle ∧ p.cycle ≤ 256 then p.status ||| 0x40 else p.status := by
  have hcheck : (composite c p).status =
      if (bgPixel p).1 ≠ 0 ∧ fgPixel (fgSprite p) ≠ 0 then
        (spriteZeroCheck { p with spriteZeroRendering := isSlotZero (fgSprite p) }).status
      else p.status := by
    unfold composite
    dsimp only
    split <;> rfl
  rw [hcheck, bgPixel_eq, spriteZeroCheck_status, isSlotZero_eq]
  rcases foreground_cases p with ⟨hnone, hsprite⟩ | ⟨i, sp, hsome, -, hopaque, hmask, hsprite⟩
  · simp [hnone, hsprite, fgPixel]
  · by_cases hbg : (backgroundOf p).1 = 0
    · simp [hbg]
    · simp [hbg, hsome, hsprite, fgPixel, hopaque, hmask, mask_of_background hbg, firstHitCycle]

/-! ### A clock that draws -/

/-- At a clock that draws, the work of the line leaves what the pixel step reads beside the list and the shifters. -/
theorem fetchLineWork_of_onPixel (c : Cart) {p : Ppu} (h : OnPixel p) :
    let q := fetchLineWork c p
    (q.mask, q.palette, q.frame, q.scanline, q.cycle, q.status, q.spriteZeroPossible) =
      (p.mask, p.palette, p.frame, p.scanline, p.cycle, p.status, p.spriteZeroPossible) := by
  obtain ⟨hlow, hhigh, hfirst, hlast⟩ := h
  intro q
  have hwork : spriteWork c p = { p with slots := (spriteWork c p).slots } := by
    rcases spriteWork_cases c p with ⟨hl, -⟩ | ⟨-, -, -, e⟩ | ⟨-, hk, -⟩ | e
    · omega
    · rw [e]
      rfl
    · omega
    · rw [e]
  have hq : q = _ := fetchLineWork_sameButFetch c p
  rw [hwork] at hq
  rw [hq]
  rfl

/-- A clock that draws no pixel leaves the frame. -/
theorem ppuClock_frame_of_not_onPixel (c : Cart) {p : Ppu} (h : ¬ OnPixel p) : (ppuClock c p).frame = p.frame := by
  by_cases hline : OnFetchLine p
  · rw [ppuClock_of_not_onPixel c hline h, advance_eq, fetchLineWork_sameButFetch, spriteWork_eq]
    rfl
  · rw [ppuClock_of_not_onFetchLine c hline, advance_eq]
    exact onlyIf_keeps Ppu.frame fun _ => rfl

/-- A clock that draws no pixel does not set the hit. -/
theorem ppuClock_hit_of_not_onPixel (c : Cart) {p : Ppu} (h : ¬ OnPixel p)
    (hbit : (ppuClock c p).status.getLsbD 6 = true) : p.status.getLsbD 6 = true := by
  by_cases hline : OnFetchLine p
  · rw [ppuClock_of_not_onPixel c hline h, advance_eq] at hbit
    exact fetchLineWork_status_bit c p (.inl rfl) hbit
  · have hvblank : (vblankStart p).status.getLsbD 6 = p.status.getLsbD 6 := by simp [vblankStart]
    rw [ppuClock_of_not_onFetchLine c hline, advance_eq] at hbit
    exact (onlyIf_keeps (fun q => q.status.getLsbD 6) fun _ => hvblank).symm.trans hbit

/-- Settles O50: the pixel step in the rules' terms, and no other part of a clock writes the frame. -/
theorem pixelIsWritten : Obligations.PixelIsWritten := by
  intro c p _
  refine ⟨?drawn, ppuClock_frame_of_not_onPixel c⟩
  case drawn =>
    intro h q out
    have hkeep := fetchLineWork_of_onPixel c h
    simp only [Prod.mk.injEq] at hkeep
    obtain ⟨-, hpalette, hframe, hline, hcycle, -, -⟩ := hkeep
    obtain ⟨hpix, hpal⟩ := mergedOf_le q
    rw [ppuClock_of_onPixel c h, advance_eq]
    dsimp only
    rw [composite_frame_eq, colourIndex_eq c _ hpix hpal, hpalette, hframe, frameIndex, hline, hcycle]

/-- Settles O51: the pixel step's condition in the rules' terms, and no other part of a clock sets the hit. -/
theorem spriteZeroHit : Obligations.SpriteZeroHit := by
  intro c p
  refine ⟨?drawn, ppuClock_hit_of_not_onPixel c⟩
  case drawn =>
    intro h q zero
    have hkeep := fetchLineWork_of_onPixel c h
    simp only [Prod.mk.injEq] at hkeep
    obtain ⟨hmask, -, -, -, hcycle, hstatus, hpossible⟩ := hkeep
    have hlast : p.cycle ≤ 256 := h.2.2.2
    rw [ppuClock_of_onPixel c h, advance_eq]
    refine ⟨composite_spriteZeroRendering c q, ?_⟩
    dsimp only
    rw [composite_status, firstHitCycle_eq, hmask, hcycle, hstatus, hpossible, or_ite_zero]
    simp only [hlast, and_true, zero, decide_eq_true_eq, and_left_comm]
    rfl

end Sys2Proof.Machine
end
